-- ==== Sys2Proof/Word.lean ====
section
/-! DEFINITION. The words of the traffic frame (spec/09, R155): bytes, two-byte fields and station numbers. -/

namespace Sys2Proof

/-- One byte of a frame (R155). -/
abbrev Byte := BitVec 8

/-- A two-byte field, sent high byte first (R155). -/
abbrev Half := BitVec 16

/-- A 16-bit station number (R151). -/
abbrev Station := BitVec 16

end Sys2Proof
end

