-- ==== Sys2Proof/Syntax.lean ====
section
/-! DEFINITION. The commands of the FKT-64: one constructor of `Instr` for each row of spec/opcode_table.json. -/

namespace Sys2Proof

/-- The two frame ports: D faces the dispatch server, C the radio access gateway (R145). -/
inductive PortId where
  | d
  | c
  deriving DecidableEq, Repr

/-- A MOVE_REQ frame addressed to the part station: source and sequence of its header and the fields of its body
(R155, R156). -/
structure MoveReq where
  source : Station
  sequence : Byte
  routeNumber : Byte
  headIndex : Byte
  remaining : Half
  trailCount : Byte
  speed : Half
  deriving DecidableEq, Repr

/-- A CUTBACK_ACK frame addressed to the part station (R155, R156). -/
structure CutbackAck where
  source : Station
  sequence : Byte
  number : Byte
  verdict : Byte
  deriving DecidableEq, Repr

/-- A REJOIN frame addressed to the part station; `believed` is the section the carrier believes its front is in
(R156). -/
structure Rejoin where
  source : Station
  sequence : Byte
  believed : Half
  deriving DecidableEq, Repr

/-- A ROUTE frame, whatever its stations (R44); its body is kept raw, since check 3 of R45 judges its form. -/
structure RouteOrder where
  destination : Station
  source : Station
  sequence : Byte
  body : List Byte
  deriving DecidableEq, Repr

/-- An MGMT frame addressed to the part station. The row gives the command code; the parameters are kept raw, since
R161 judges their length (R158). -/
structure Mgmt where
  source : Station
  sequence : Byte
  tag : Byte
  params : List Byte
  deriving DecidableEq, Repr

/-- An MGMT RESET frame whose mode byte is the row's own (R158, R172). -/
structure ResetOrder where
  source : Station
  sequence : Byte
  tag : Byte
  deriving DecidableEq, Repr

/-- The commands that reach the part, one constructor for each row of the opcode table. -/
inductive Instr where
  /-- POWER_ON (R160), with the strap levels it reads. -/
  | powerOn (stationStraps : BitVec 4) (rateStraps : BitVec 2)
  /-- RESET_INPUT_ASSERT (R160). -/
  | resetInputAssert
  /-- FRAME_RECEIVE (R146): bytes that arrive on a port. -/
  | frameReceive (p : PortId) (bytes : List Byte)
  /-- PORT_C_CLASSIFY (R149): the classifier takes the front frame of Port C. -/
  | portCClassify
  /-- PORT_D_CLASSIFY (R150): the classifier takes the front frame of Port D. -/
  | portDClassify
  /-- FRAME_TRANSMIT_END (R152). -/
  | frameTransmitEnd (p : PortId)
  /-- MOVE_REQ (R63). -/
  | moveReq (r : MoveReq)
  /-- CUTBACK_ACK (R123). -/
  | cutbackAck (a : CutbackAck)
  /-- REJOIN (R37). -/
  | rejoin (r : Rejoin)
  /-- ROUTE (R45). -/
  | route (o : RouteOrder)
  /-- SECTION_LOAD (R3). -/
  | sectionLoad (m : Mgmt)
  /-- ZONE_LOAD (R8). -/
  | zoneLoad (m : Mgmt)
  /-- SECTION_OPEN (R10). -/
  | sectionOpen (m : Mgmt)
  /-- SECTION_CLOSE (R9). -/
  | sectionClose (m : Mgmt)
  /-- ZONE_OPEN (R12). -/
  | zoneOpen (m : Mgmt)
  /-- ZONE_CLOSE (R11). -/
  | zoneClose (m : Mgmt)
  /-- CONFLICT_ADD (R17). -/
  | conflictAdd (m : Mgmt)
  /-- CONFLICT_REMOVE (R19). -/
  | conflictRemove (m : Mgmt)
  /-- CARRIER_ADMIT (R32). -/
  | carrierAdmit (m : Mgmt)
  /-- CARRIER_RETIRE (R40). -/
  | carrierRetire (m : Mgmt)
  /-- CARRIER_CLEAR (R39). -/
  | carrierClear (m : Mgmt)
  /-- CARRIER_RECALL (R119). -/
  | carrierRecall (m : Mgmt)
  /-- CARRIER_QUERY (R41). -/
  | carrierQuery (m : Mgmt)
  /-- SECTION_QUERY (R169). -/
  | sectionQuery (m : Mgmt)
  /-- PART_QUERY (R167). -/
  | partQuery (m : Mgmt)
  /-- PARAMS_SET (R165). -/
  | paramsSet (m : Mgmt)
  /-- START (R140). -/
  | start (m : Mgmt)
  /-- HALT (R141). -/
  | halt (m : Mgmt)
  /-- RESET_TRAFFIC (R173). -/
  | resetTraffic (r : ResetOrder)
  /-- RESET_FULL (R174). -/
  | resetFull (r : ResetOrder)
  /-- CYCLE_EVENT (R133). -/
  | cycleEvent
  /-- PROBE (R136), for one slot. -/
  | probe (slot : Nat)
  /-- SILENCE_LIMIT (R137), for one slot. -/
  | silenceLimit (slot : Nat)
  /-- HOLD_LIMIT_EXPIRY (R117), for one slot. -/
  | holdLimitExpiry (slot : Nat)
  /-- CUTBACK_TIMEOUT (R127), for one slot. -/
  | cutbackTimeout (slot : Nat)
  /-- SYNC_BYTE (R146): one byte that arrives on a port. -/
  | syncByte (p : PortId) (b : Byte)
  deriving DecidableEq, Repr

end Sys2Proof
end

