-- ==== Sys2Proof/Decode.lean ====
section
/-! DEFINITION. Words and commands. spec/opcode_table.json gives no row any bits ("fields": [] throughout, and no
fixed bits), so no word spells a command. The frames' own layouts are read in Machine/Frames.lean. -/

namespace Sys2Proof

/-- The command that a word of the opcode table spells: none, since no row of the table gives bits. -/
def decodeTableWord (_nbits _w : Nat) : Option Instr := none

end Sys2Proof
end

