-- ==== Sys2Proof/Config.lean ====
section
/-! DEFINITION. What the FKT-64 fixes (sizes, thresholds, reserved numbers, defaults) and the one value its manual
leaves open. -/

namespace Sys2Proof.Config

/-- Highest section number and highest node number (R1). -/
def maxSection : Nat := 1023

/-- Highest zone number (R7). -/
def maxZone : Nat := 63

/-- Number of carrier slots (R21). -/
def maxSlot : Nat := 64

/-- Highest conflict record number (R14). -/
def maxRecord : Nat := 2048

/-- The most records one conflict chain holds (R15). -/
def maxChain : Nat := 16

/-- Inbound places of a port (R145, R148). -/
def inboundPlaces : Nat := 8

/-- Occupied outbound places below which a part-originated frame is admitted (R152). -/
def ownPlaces : Nat := 16

/-- Occupied outbound places below which a forwarded frame is admitted (R152). -/
def forwardPlaces : Nat := 12

/-- The most entries of a stored route (R25, R47). -/
def maxRoute : Nat := 32

/-- The longest trail (R25, R71). -/
def maxTrail : Nat := 3

/-- The most carriers a deadlock walk visits (R109). -/
def walkVisits : Nat := 8

/-- Wait list entries the first PART_QUERY frame carries at most (R167). -/
def firstFrameWaits : Nat := 35

/-- The clamp of distances and needs (R86, R87, R94). -/
def distanceClamp : Nat := 65535

/-- Requested speeds above this are taken as this (R63). -/
def maxRequest : Nat := 4095

/-- The step of the speed search, in mm/s (R90). -/
def speedStep : Nat := 50

/-- The sync byte (R146, R155). -/
def syncByte : Byte := 0xC3

/-- Broadcast station (R151). -/
def broadcast : Station := 0xFFFF

/-- The part station is this plus the station strap value (R151). -/
def partBase : Station := 0xFE00

/-- When, within a cycle event, a carrier whose silence counter reached its limit is taken as lost. R127 and R130 let
a loss come before or after the cutback timeouts of the same event, and R144 lets it come after the carrier's own
hold-limit expiry; no rule chooses. -/
inductive LossTime where
  | beforeTimeouts
  | afterTimeouts
  | afterHoldLimits
  deriving DecidableEq, Repr, Inhabited

/-- FREE VALUE (log entry 5): the place of a slot's loss within the cycle event that the model's counter `freeTick`
numbers. It has no body, so no statement can rest on a particular order. -/
opaque lossTime : Nat → Nat → LossTime

end Sys2Proof.Config
end

