-- ==== Sys2Proof/Machine/State.lean ====
section
/-! DEFINITION. The state of the FKT-64 as plain data, and the machine right after reset. INVENTORY.md lists every
field with its rule. Tables are lists of number and entry pairs, numbers strictly rising; an unlisted number reads as
not loaded, free, 0 or VACANT (log entry 13). -/

namespace Sys2Proof.Machine

/-- A direction of travel (R2). -/
inductive Direction where
  | fwd
  | rev
  deriving DecidableEq, Repr

/-- A section's allowed directions (R1). -/
inductive Allowed where
  | fwd
  | rev
  | both
  deriving DecidableEq, Repr

/-- A section's kind (R1). -/
inductive SectionKind where
  | lane
  | cell
  deriving DecidableEq, Repr

/-- The condition of a conflict record (R14, R16). -/
inductive ConflictCondition where
  | always
  | wide
  deriving DecidableEq, Repr

/-- The state of one hold (R59). -/
inductive HoldState where
  | active
  | recalling
  | frozen
  deriving DecidableEq, Repr

/-- The state of a carrier slot (R21). -/
inductive CarrierState where
  | vacant
  | idle
  | active
  | lost
  | quarantined
  | rejoining
  deriving DecidableEq, Repr

/-- The last notable outcome for a carrier (R29). -/
inductive Condition where
  | none
  | reduced
  | waiting
  | deadlock
  | closedAhead
  | cutbackDeclined
  | cutbackTimeout
  | badReport
  | overrun
  | silent
  deriving DecidableEq, Repr

/-- Why a carrier is out of service (R30). -/
inductive LostCause where
  | none
  | silent
  | overrun
  | badReports
  deriving DecidableEq, Repr

/-- Why a waiter is blocked (R95). -/
inductive BlockReason where
  | recall
  | capacity
  | conflict
  | zoneFull
  deriving DecidableEq, Repr

/-- The part state (R139). -/
inductive PartState where
  | unconfigured
  | running
  | halted
  deriving DecidableEq, Repr

/-- The halt cause (R139). -/
inductive HaltCause where
  | none
  | command
  | overrunConflict
  | reset
  deriving DecidableEq, Repr

/-- A checked frame: the fields of R155 but for sync, length and check, which are functions of these. -/
structure Frame where
  destination : Station
  source : Station
  kind : Byte
  sequence : Byte
  body : List Byte
  deriving DecidableEq, Repr

/-- Where a port stands in building a frame from bytes (R146). -/
inductive RxState where
  /-- between frames, looking for the sync byte -/
  | hunting
  /-- the sync byte has come; the next byte is the length -/
  | lengthNext
  /-- `left` more bytes are to come, `taken` have come, first one first -/
  | taking (left : Nat) (taken : List Byte)
  deriving DecidableEq, Repr

/-- The seven port fault flags (R153). -/
structure PortFlags where
  check : Bool
  length : Bool
  inOverrun : Bool
  unknownStation : Bool
  misplaced : Bool
  fwdDrop : Bool
  outOverrun : Bool
  deriving DecidableEq, Repr

/-- Every flag clear (R145). -/
def PortFlags.clear : PortFlags := ⟨false, false, false, false, false, false, false⟩

/-- One frame port (R145). The front entry of `outbound` is the one on the line (R152). -/
structure Port where
  rx : RxState
  inbound : List Frame
  outbound : List Frame
  flags : PortFlags
  deriving DecidableEq, Repr

/-- A port after power-on (R145). -/
def Port.empty : Port := ⟨.hunting, [], [], .clear⟩

/-- The twelve-byte record of a section (R1, R158). -/
structure SectionRecord where
  kind : SectionKind
  fromNode : Nat
  toNode : Nat
  length : Nat
  speedLimit : Nat
  capacity : Nat
  allowed : Allowed
  zone : Nat
  deriving DecidableEq, Repr

/-- One conflict record on a chain (R14): its number in the pool, the other section and the condition. The record
that follows it in the chain is its "next record". -/
structure ConflictRecord where
  record : Nat
  other : Nat
  condition : ConflictCondition
  deriving DecidableEq, Repr

/-- A loaded section (R1): record, open state and conflict chain in chain order (R15). -/
structure SectionEntry where
  data : SectionRecord
  isOpen : Bool
  chain : List ConflictRecord
  deriving DecidableEq, Repr

/-- A loaded zone (R7). -/
structure ZoneEntry where
  capacity : Nat
  isOpen : Bool
  deriving DecidableEq, Repr

/-- One entry of a holder list (R59). -/
structure Holder where
  slot : Nat
  state : HoldState
  deriving DecidableEq, Repr

/-- A hold record: holders, oldest first, and their one direction, none while the list is empty (R59). -/
structure HoldRecord where
  holders : List Holder
  direction : Option Direction
  deriving DecidableEq, Repr

/-- A free section (R59). -/
def HoldRecord.free : HoldRecord := ⟨[], none⟩

/-- A section and the direction it is driven in: an entry of a route or a trail (R25). -/
structure RouteEntry where
  sec : Nat
  direction : Direction
  deriving DecidableEq, Repr

/-- The cutback in flight (R27, R114). `frame` is the CUTBACK as it was composed, which R73 and R122 send again
unchanged (log entry 10). -/
structure CutbackRecord where
  number : Byte
  target : Nat
  timeout : Nat
  frame : Frame
  deriving DecidableEq, Repr

/-- The eight admission parameters (R23). -/
structure AdmissionParams where
  priority : Nat
  wide : Bool
  vmax : Nat
  decel : Nat
  reaction : Nat
  supervision : Nat
  lifetime : Nat
  progress : Nat
  deriving DecidableEq, Repr

/-- A carrier context (R21 to R30). -/
structure Carrier where
  state : CarrierState
  station : Station
  params : AdmissionParams
  routeNumber : Byte
  route : List RouteEntry
  head : Nat
  limit : Nat
  headSection : Nat
  trail : List RouteEntry
  remaining : Nat
  requestedSpeed : Nat
  lastSequence : Option Byte
  lastAnswer : Option Frame
  grantNumber : Byte
  /-- limit index and permitted speed of the last GRANT (R80) -/
  keptGrant : Option (Nat × Nat)
  cutbackNumber : Byte
  cutback : Option CutbackRecord
  silence : Nat
  probeSent : Bool
  holdIdle : Nat
  badRun : Nat
  releases : Nat
  passedOver : Nat
  effectivePriority : Nat
  condition : Condition
  lostCause : LostCause
  deriving DecidableEq, Repr

/-- The vacant value of every field (R21; R114 for the cutback number). For the admission parameters, effective priority,
last remaining, requested speed, last sequence, last answer, grant number and kept GRANT, whose vacant values R21 does not
list, 0 and none are this model's choice (log entry 27). The station none is written 0x0000. -/
def Carrier.vacant : Carrier where
  state := .vacant
  station := 0
  params := ⟨0, false, 0, 0, 0, 0, 0, 0⟩
  routeNumber := 0
  route := []
  head := 0
  limit := 0
  headSection := 0
  trail := []
  remaining := 0
  requestedSpeed := 0
  lastSequence := none
  lastAnswer := none
  grantNumber := 0
  keptGrant := none
  cutbackNumber := 0
  cutback := none
  silence := 0
  probeSent := false
  holdIdle := 0
  badRun := 0
  releases := 0
  passedOver := 0
  effectivePriority := 0
  condition := .none
  lostCause := .none

/-- An entry of the wait list (R95). -/
structure WaitEntry where
  slot : Nat
  wantedIndex : Nat
  wantedSection : Nat
  reason : BlockReason
  blocker : Option Nat
  deriving DecidableEq, Repr

/-- The six part parameters (R164). -/
structure PartParams where
  periodSelect : Nat
  margin : Nat
  lookahead : Nat
  holdLimit : Nat
  cutbackTimeout : Nat
  dispatchStation : Station
  deriving DecidableEq, Repr

/-- The defaults of the part parameters (R164). -/
def PartParams.defaults : PartParams := ⟨2, 300, 6, 20, 5, 0x0001⟩

/-- The strap pins and the reset input (R160). -/
structure Pins where
  stationStraps : BitVec 4
  rateStraps : BitVec 2
  resetHeld : Bool
  deriving DecidableEq, Repr

/-- The state of the part, with the queue of commands that wait for it. -/
structure State where
  pending : List Instr
  pins : Pins
  stationStrap : BitVec 4
  rateStrap : BitVec 2
  portD : Port
  portC : Port
  sections : List (Nat × SectionEntry)
  zones : List (Nat × ZoneEntry)
  freeRecords : List Nat
  holds : List (Nat × HoldRecord)
  occupancy : List (Nat × Nat)
  carriers : List (Nat × Carrier)
  waits : List WaitEntry
  cycle : BitVec 12
  timerRunning : Bool
  period : Nat
  params : PartParams
  partState : PartState
  haltCause : HaltCause
  freeTick : Nat
  deriving DecidableEq, Repr

/-- Reasons the part can stop with: none. No rule of the spec stops the part, so no command raises a fault. -/
inductive Fault where
  deriving DecidableEq, Repr

/-- Reasons a command can have no meaning. -/
inductive Refusal where
  /-- Raised by an arm of `exec` whose command has no meaning yet, naming its mnemonic. Safe: the run stops. No arm
  raises it now. -/
  | notModelled (mnemonic : String)
  deriving DecidableEq, Repr

/-- The free list after power-on: records 1 to 2048 in ascending order (R14). -/
def allRecords : List Nat := List.range' 1 Config.maxRecord

/-- The machine right after reset: power-on values throughout (R1, R7, R14, R21, R59, R95, R131, R139, R145, R164).
The strap levels 0 are this model's choice (log entry 7). -/
def State.reset : State where
  pending := []
  pins := ⟨0, 0, false⟩
  stationStrap := 0
  rateStrap := 0
  portD := .empty
  portC := .empty
  sections := []
  zones := []
  freeRecords := allRecords
  holds := []
  occupancy := []
  carriers := []
  waits := []
  cycle := 0
  timerRunning := false
  period := 2
  params := .defaults
  partState := .unconfigured
  haltCause := .none
  freeTick := 0

end Sys2Proof.Machine
end

