-- ==== Sys2Proof/Machine/Flags.lean ====
section
/-! DEFINITION. The port fault flags (R153) and their byte in a PART_QUERY result (R168). -/

namespace Sys2Proof.Machine

/-- The names of the seven flags. -/
inductive PortFlag where
  | check
  | length
  | inOverrun
  | unknownStation
  | misplaced
  | fwdDrop
  | outOverrun
  deriving DecidableEq, Repr

/-- A flag is set; one already set stays set (R153). -/
def PortFlags.raise (f : PortFlags) : PortFlag → PortFlags
  | .check => { f with check := true }
  | .length => { f with length := true }
  | .inOverrun => { f with inOverrun := true }
  | .unknownStation => { f with unknownStation := true }
  | .misplaced => { f with misplaced := true }
  | .fwdDrop => { f with fwdDrop := true }
  | .outOverrun => { f with outOverrun := true }

/-- The flag byte of PART_QUERY: CHECK is the least significant bit, OUT_OVERRUN bit 6, bit 7 is 0 (R168). -/
def PortFlags.toByte (f : PortFlags) : Byte :=
  BitVec.ofNat 8 (f.check.toNat + 2 * f.length.toNat + 4 * f.inOverrun.toNat + 8 * f.unknownStation.toNat +
    16 * f.misplaced.toNat + 32 * f.fwdDrop.toNat + 64 * f.outOverrun.toNat)

end Sys2Proof.Machine
end

