-- ==== Sys2Proof/Machine/Operands.lean ====
section
/-! DEFINITION. The operand forms of frames and commands: fields of one and two bytes, high byte first (R155), and the
coded fields of the code-value table of spec/09. -/

namespace Sys2Proof.Machine

/-- The byte at an offset of a body. -/
def byteAt (bs : List Byte) (i : Nat) : Byte := bs.getD i 0

/-- The two-byte field at an offset, high byte first (R155). -/
def halfAt (bs : List Byte) (i : Nat) : Half := (byteAt bs i ++ byteAt bs (i + 1) : BitVec 16)

/-- The number in the byte at an offset. -/
def numAt (bs : List Byte) (i : Nat) : Nat := (byteAt bs i).toNat

/-- The number in the two-byte field at an offset. -/
def numAt2 (bs : List Byte) (i : Nat) : Nat := (halfAt bs i).toNat

/-- A number as one byte of a body. -/
def byte (n : Nat) : Byte := BitVec.ofNat 8 n

/-- A two-byte field as bytes, high byte first (R155). -/
def halfBytes (h : Half) : List Byte := [h.extractLsb' 8 8, h.extractLsb' 0 8]

/-- A number as a two-byte field. -/
def bytes2 (n : Nat) : List Byte := halfBytes (BitVec.ofNat 16 n)

/-! ### Coded fields (spec/09, code values) -/

def Direction.code : Direction → Byte
  | .fwd => 0x01
  | .rev => 0x02

/-- A direction in which a carrier can drive: FWD or REV, nothing else (R47). -/
def Direction.ofCode (b : Byte) : Option Direction :=
  if b = 0x01 then some .fwd else if b = 0x02 then some .rev else none

def Allowed.code : Allowed → Byte
  | .fwd => 0x01
  | .rev => 0x02
  | .both => 0x03

def Allowed.ofCode (b : Byte) : Option Allowed :=
  if b = 0x01 then some .fwd else if b = 0x02 then some .rev else if b = 0x03 then some .both else none

def SectionKind.code : SectionKind → Byte
  | .lane => 0x01
  | .cell => 0x02

def SectionKind.ofCode (b : Byte) : Option SectionKind :=
  if b = 0x01 then some .lane else if b = 0x02 then some .cell else none

def ConflictCondition.code : ConflictCondition → Byte
  | .always => 0x01
  | .wide => 0x02

def ConflictCondition.ofCode (b : Byte) : Option ConflictCondition :=
  if b = 0x01 then some .always else if b = 0x02 then some .wide else none

def HoldState.code : HoldState → Byte
  | .active => 0x01
  | .recalling => 0x02
  | .frozen => 0x03

def CarrierState.code : CarrierState → Byte
  | .vacant => 0x00
  | .idle => 0x01
  | .active => 0x02
  | .lost => 0x03
  | .quarantined => 0x04
  | .rejoining => 0x05

def PartState.code : PartState → Byte
  | .unconfigured => 0x00
  | .running => 0x01
  | .halted => 0x02

def HaltCause.code : HaltCause → Byte
  | .none => 0x00
  | .command => 0x01
  | .overrunConflict => 0x02
  | .reset => 0x03

def Condition.code : Condition → Byte
  | .none => 0x00
  | .reduced => 0x01
  | .waiting => 0x02
  | .deadlock => 0x03
  | .closedAhead => 0x04
  | .cutbackDeclined => 0x05
  | .cutbackTimeout => 0x06
  | .badReport => 0x07
  | .overrun => 0x08
  | .silent => 0x09

def LostCause.code : LostCause → Byte
  | .none => 0x00
  | .silent => 0x01
  | .overrun => 0x02
  | .badReports => 0x03

def BlockReason.code : BlockReason → Byte
  | .recall => 0x01
  | .capacity => 0x02
  | .conflict => 0x03
  | .zoneFull => 0x04

/-- The reason a GRANT carries (R79). -/
inductive GrantReason where
  | none
  | reduced
  | waiting
  | deadlock
  | closedAhead
  | routeEnd
  | halted
  | routeChange
  deriving DecidableEq, Repr

def GrantReason.code : GrantReason → Byte
  | .none => 0x00
  | .reduced => 0x01
  | .waiting => 0x02
  | .deadlock => 0x03
  | .closedAhead => 0x04
  | .routeEnd => 0x05
  | .halted => 0x06
  | .routeChange => 0x07

/-- The status of a RESULT (R163). -/
inductive Status where
  | ok
  | badCommand
  | badValue
  | noSuch
  | inUse
  | busy
  | wrongState
  | noRoom
  | tooLong
  deriving DecidableEq, Repr

def Status.code : Status → Byte
  | .ok => 0x00
  | .badCommand => 0x01
  | .badValue => 0x02
  | .noSuch => 0x03
  | .inUse => 0x04
  | .busy => 0x05
  | .wrongState => 0x06
  | .noRoom => 0x07
  | .tooLong => 0x08

/-- Why a route order is refused (R45). -/
inductive RefusalReason where
  | notAdmitted
  | wrongState
  | badFormat
  | noSection
  | badDirection
  | discontinuous
  | duplicate
  | notAtStart
  | aheadHeld
  | directionHeld
  deriving DecidableEq, Repr

def RefusalReason.code : RefusalReason → Byte
  | .notAdmitted => 0x01
  | .wrongState => 0x02
  | .badFormat => 0x03
  | .noSection => 0x04
  | .badDirection => 0x05
  | .discontinuous => 0x06
  | .duplicate => 0x07
  | .notAtStart => 0x08
  | .aheadHeld => 0x09
  | .directionHeld => 0x0A

/-! ### Directions and route entries -/

/-- A direction is allowed when the section allows BOTH or that direction (R2). -/
def Allowed.permits : Allowed → Direction → Bool
  | .both, _ => true
  | .fwd, .fwd => true
  | .rev, .rev => true
  | .fwd, .rev => false
  | .rev, .fwd => false

/-- The node a route entry is entered by (R2). -/
def SectionRecord.entryNode (r : SectionRecord) : Direction → Nat
  | .fwd => r.fromNode
  | .rev => r.toNode

/-- The node a route entry is left by (R2). -/
def SectionRecord.exitNode (r : SectionRecord) : Direction → Nat
  | .fwd => r.toNode
  | .rev => r.fromNode

/-- A route or trail entry as three bytes (R157, R158). -/
def RouteEntry.bytes (e : RouteEntry) : List Byte := bytes2 e.sec ++ [e.direction.code]

/-- `n` entries of section and direction from an offset on; none where a direction is neither FWD nor REV. -/
def entriesAt (bs : List Byte) : Nat → Nat → Option (List RouteEntry)
  | _, 0 => some []
  | i, n + 1 =>
    match Direction.ofCode (byteAt bs (i + 2)), entriesAt bs (i + 3) n with
    | some d, some es => some (⟨numAt2 bs i, d⟩ :: es)
    | _, _ => none

/-! ### Section records (R158) -/

/-- A section record as it stands in a frame, twelve bytes. -/
def SectionRecord.bytes (r : SectionRecord) : List Byte :=
  [r.kind.code] ++ bytes2 r.fromNode ++ bytes2 r.toNode ++ bytes2 r.length ++ bytes2 r.speedLimit ++
    [byte r.capacity, r.allowed.code, byte r.zone]

/-- Check 2 of R4 on the fields of a record, but for kind and allowed directions, whose codes `recordAt` reads. -/
def SectionRecord.fieldsInRange (r : SectionRecord) : Bool :=
  1 ≤ r.fromNode ∧ r.fromNode ≤ Config.maxSection ∧ 1 ≤ r.toNode ∧ r.toNode ≤ Config.maxSection ∧
    r.fromNode ≠ r.toNode ∧ 100 ≤ r.length ∧ r.length ≤ 30000 ∧ 100 ≤ r.speedLimit ∧ r.speedLimit ≤ 4000 ∧
    r.zone ≤ Config.maxZone

/-- Check 3 of R4: capacity 1 to 4 for a LANE, exactly 1 for a CELL. -/
def SectionRecord.capacityFits (r : SectionRecord) : Bool :=
  match r.kind with
  | .lane => 1 ≤ r.capacity ∧ r.capacity ≤ 4
  | .cell => r.capacity = 1

/-- The record at an offset, none where kind or allowed directions have no code (check 2 of R4). -/
def recordAt (bs : List Byte) (i : Nat) : Option SectionRecord :=
  match SectionKind.ofCode (byteAt bs i), Allowed.ofCode (byteAt bs (i + 10)) with
  | some k, some a =>
    some ⟨k, numAt2 bs (i + 1), numAt2 bs (i + 3), numAt2 bs (i + 5), numAt2 bs (i + 7), numAt bs (i + 9), a,
      numAt bs (i + 11)⟩
  | _, _ => none

/-! ### Number ranges -/

/-- A section number 1 to 1023 (R1). -/
def sectionNumber (n : Nat) : Bool := 1 ≤ n ∧ n ≤ Config.maxSection

/-- A zone number 1 to 63 (R7). -/
def zoneNumber (n : Nat) : Bool := 1 ≤ n ∧ n ≤ Config.maxZone

/-- A slot number 1 to 64 (R21). -/
def slotNumber (n : Nat) : Bool := 1 ≤ n ∧ n ≤ Config.maxSlot

end Sys2Proof.Machine
end

