-- ==== Sys2Proof/Machine/Frames.lean ====
section
/-! DEFINITION. The traffic frame: kind codes, the check of R147, the bytes on the line (R155), and the frames that
the commands stand for (R156 to R158). -/

namespace Sys2Proof.Machine

/-! ### Kind and command codes (R155, R158) -/

def kindMoveReq : Byte := 0x21
def kindCutbackAck : Byte := 0x22
def kindRejoin : Byte := 0x23
def kindGrant : Byte := 0x31
def kindCutback : Byte := 0x32
def kindProbe : Byte := 0x33
def kindBeacon : Byte := 0x34
def kindRoute : Byte := 0x41
def kindMgmt : Byte := 0x51
def kindResult : Byte := 0x52
def kindNotice : Byte := 0x53

def codeSectionLoad : Byte := 0x01
def codeZoneLoad : Byte := 0x02
def codeSectionOpen : Byte := 0x03
def codeSectionClose : Byte := 0x04
def codeConflictAdd : Byte := 0x05
def codeConflictRemove : Byte := 0x06
def codeZoneOpen : Byte := 0x07
def codeZoneClose : Byte := 0x08
def codeCarrierAdmit : Byte := 0x09
def codeCarrierRetire : Byte := 0x0A
def codeCarrierClear : Byte := 0x0B
def codeCarrierRecall : Byte := 0x0C
def codeCarrierQuery : Byte := 0x0D
def codeSectionQuery : Byte := 0x0E
def codePartQuery : Byte := 0x0F
def codeParamsSet : Byte := 0x10
def codeStart : Byte := 0x11
def codeHalt : Byte := 0x12
def codeReset : Byte := 0x13

/-- The mode bytes of RESET (R172). -/
def modeTraffic : Byte := 0x01
def modeFull : Byte := 0x02

/-! ### The check (R147) -/

/-- One bit enters the check register: generator x^16 + x^12 + x^5 + 1. -/
def crcBit (reg : BitVec 16) (bit : Bool) : BitVec 16 :=
  if reg.msb = bit then reg <<< 1 else (reg <<< 1) ^^^ 0x1021

/-- One byte enters, most significant bit first. -/
def crcByte (reg : BitVec 16) (b : Byte) : BitVec 16 :=
  [7, 6, 5, 4, 3, 2, 1, 0].foldl (fun r i => crcBit r (b.getLsbD i)) reg

/-- The check over bytes: the register starts at all ones, nothing is reflected or inverted. -/
def crc (bs : List Byte) : BitVec 16 := bs.foldl crcByte 0xFFFF

/-! ### The frame on the line (R155) -/

/-- Destination, source, kind, sequence and body, the bytes the check covers. -/
def Frame.payload (f : Frame) : List Byte :=
  halfBytes f.destination ++ halfBytes f.source ++ [f.kind, f.sequence] ++ f.body

/-- The whole frame as it is sent: sync, length, payload, check. -/
def Frame.bytes (f : Frame) : List Byte :=
  [Config.syncByte, byte (6 + f.body.length)] ++ f.payload ++ halfBytes (crc f.payload)

/-- The frame whose payload bytes are given. -/
def Frame.ofPayload (bs : List Byte) : Frame :=
  ⟨halfAt bs 0, halfAt bs 2, byteAt bs 4, byteAt bs 5, bs.drop 6⟩

/-! ### The frames of the commands, and the commands of the frames (R156, R158) -/

/-- The frame a MOVE_REQ command stands for; it is addressed to the part station. -/
def moveReqFrame (r : MoveReq) (part : Station) : Frame :=
  ⟨part, r.source, kindMoveReq, r.sequence,
    [r.routeNumber, r.headIndex] ++ halfBytes r.remaining ++ [r.trailCount] ++ halfBytes r.speed⟩

/-- The MOVE_REQ that a frame of seven body bytes carries. -/
def moveReqOf (f : Frame) : MoveReq :=
  ⟨f.source, f.sequence, byteAt f.body 0, byteAt f.body 1, halfAt f.body 2, byteAt f.body 4, halfAt f.body 5⟩

/-- The frame a CUTBACK_ACK command stands for. -/
def cutbackAckFrame (a : CutbackAck) (part : Station) : Frame :=
  ⟨part, a.source, kindCutbackAck, a.sequence, [a.number, a.verdict]⟩

/-- The CUTBACK_ACK that a frame of two body bytes carries. -/
def cutbackAckOf (f : Frame) : CutbackAck := ⟨f.source, f.sequence, byteAt f.body 0, byteAt f.body 1⟩

/-- The frame a REJOIN command stands for. -/
def rejoinFrame (r : Rejoin) (part : Station) : Frame :=
  ⟨part, r.source, kindRejoin, r.sequence, halfBytes r.believed⟩

/-- The REJOIN that a frame of two body bytes carries. -/
def rejoinOf (f : Frame) : Rejoin := ⟨f.source, f.sequence, halfAt f.body 0⟩

/-- The frame a ROUTE command stands for. -/
def routeFrame (o : RouteOrder) : Frame := ⟨o.destination, o.source, kindRoute, o.sequence, o.body⟩

/-- The route order that a ROUTE frame carries. -/
def routeOrderOf (f : Frame) : RouteOrder := ⟨f.destination, f.source, f.sequence, f.body⟩

/-- The frame a management command stands for: code, tag, parameters. -/
def mgmtFrame (m : Mgmt) (code : Byte) (part : Station) : Frame :=
  ⟨part, m.source, kindMgmt, m.sequence, [code, m.tag] ++ m.params⟩

/-- The command that an MGMT frame of at least two body bytes carries, less its code. -/
def mgmtOf (f : Frame) : Mgmt := ⟨f.source, f.sequence, byteAt f.body 1, f.body.drop 2⟩

/-- A reset order as a RESET command with its mode byte. -/
def resetCommand (r : ResetOrder) (mode : Byte) : Mgmt := ⟨r.source, r.sequence, r.tag, [mode]⟩

end Sys2Proof.Machine
end

