-- ==== Sys2Proof/Machine/Table.lean ====
section
/-! DEFINITION. Sparse tables: lists of number and entry pairs with strictly rising numbers. -/

namespace Sys2Proof.Machine

/-- The entry listed under a number. -/
def lookup {α : Type} : List (Nat × α) → Nat → Option α
  | [], _ => none
  | (k, a) :: t, n => if k = n then some a else lookup t n

/-- The table with an entry put in its place, replacing an entry of the same number. -/
def insertAt {α : Type} : List (Nat × α) → Nat → α → List (Nat × α)
  | [], n, a => [(n, a)]
  | (k, b) :: t, n, a =>
    if n < k then (n, a) :: (k, b) :: t
    else if n = k then (n, a) :: t
    else (k, b) :: insertAt t n a

/-- The table without the entry of a number. -/
def removeAt {α : Type} (t : List (Nat × α)) (n : Nat) : List (Nat × α) := t.filter (fun e => e.1 ≠ n)

/-- The numbers of a table rise strictly. -/
abbrev Rising {α : Type} (t : List (Nat × α)) : Prop := t.Pairwise (fun a b => a.1 < b.1)

end Sys2Proof.Machine
end

