-- ==== Sys2Proof/Machine/Ops.lean ====
section
/-! DEFINITION. The named operations over the state: ports and queues, frames the part sends, carrier contexts, the
Track Map's answers and the Hold Table. -/

namespace Sys2Proof.Machine

/-! ### Ports (R145 to R153) -/

/-- One of the two ports. -/
def State.port (s : State) : PortId → Port
  | .d => s.portD
  | .c => s.portC

/-- The state with one port replaced. -/
def State.setPort (s : State) : PortId → Port → State
  | .d, x => { s with portD := x }
  | .c, x => { s with portC := x }

/-- A fault flag of a port is set (R153). -/
def State.raise (s : State) (p : PortId) (f : PortFlag) : State :=
  s.setPort p { s.port p with flags := (s.port p).flags.raise f }

/-- The part station: 0xFE00 plus the strap value read at power-on (R151). -/
def State.partStation (s : State) : Station := Config.partBase + s.stationStrap.setWidth 16

/-- A checked frame is appended to the inbound queue below 8 occupied places, else discarded with IN_OVERRUN (R148). -/
def offerInbound (p : PortId) (f : Frame) (s : State) : State :=
  if (s.port p).inbound.length < Config.inboundPlaces then
    s.setPort p { s.port p with inbound := (s.port p).inbound ++ [f] }
  else s.raise p .inOverrun

/-- A part-originated frame is admitted below 16 occupied places, else dropped with OUT_OVERRUN (R152). -/
def offerOwn (p : PortId) (f : Frame) (s : State) : State :=
  if (s.port p).outbound.length < Config.ownPlaces then
    s.setPort p { s.port p with outbound := (s.port p).outbound ++ [f] }
  else s.raise p .outOverrun

/-- A forwarded frame is admitted below 12 occupied places, else dropped with FWD_DROP (R152). -/
def offerForward (p : PortId) (f : Frame) (s : State) : State :=
  if (s.port p).outbound.length < Config.forwardPlaces then
    s.setPort p { s.port p with outbound := (s.port p).outbound ++ [f] }
  else s.raise p .fwdDrop

/-- The front frame leaves a port's inbound queue (R148). -/
def dropFront (p : PortId) (s : State) : State :=
  s.setPort p { s.port p with inbound := (s.port p).inbound.tail }

/-! ### A frame that arrives as a command (log entry 2) -/

/-- The classifier can take this frame now: it stands first in its port's inbound queue, or the queue is empty and
the frame is admitted and taken at once (R148). -/
def canTake (p : PortId) (f : Frame) (s : State) : Bool :=
  match (s.port p).inbound with
  | [] => true
  | g :: _ => g = f

/-- A frame command: taken by the classifier when it can be, with `handle` as the one event of R148; otherwise the
frame has arrived behind others and waits in the inbound queue. The frame comes whole, beside the bytes of R146: a frame
that the port is building from bytes stays as far as it is built, which is this model's choice (log entry 2). Nothing
happens while the reset input is held (R160). -/
def takeFrame (p : PortId) (f : Frame) (handle : State → State) (s : State) : State :=
  if s.pins.resetHeld then s
  else if canTake p f s then handle (dropFront p s)
  else offerInbound p f s

/-- What a pin or timer event does while the part is active; nothing while the reset input is held (R160). -/
def whileActive (act : State → State) (s : State) : State := if s.pins.resetHeld then s else act s

/-! ### Carrier contexts (R21, R22) -/

/-- The context of a slot, with vacant values where no carrier is admitted (R21). -/
def State.carrier (s : State) (slot : Nat) : Carrier := (lookup s.carriers slot).getD .vacant

/-- A slot is admitted when its state is other than VACANT (R21). -/
def State.admitted (s : State) (slot : Nat) : Bool := (lookup s.carriers slot).isSome

/-- A change of an admitted slot's context; a VACANT slot has none to change. -/
def State.modifyCarrier (s : State) (slot : Nat) (f : Carrier → Carrier) : State :=
  match lookup s.carriers slot with
  | some c => { s with carriers := insertAt s.carriers slot (f c) }
  | none => s

/-- A slot takes a context (CARRIER_ADMIT). -/
def State.putCarrier (s : State) (slot : Nat) (c : Carrier) : State :=
  { s with carriers := insertAt s.carriers slot c }

/-- A slot becomes VACANT, every field at its vacant value (R21). -/
def State.vacate (s : State) (slot : Nat) : State := { s with carriers := removeAt s.carriers slot }

/-- The admitted slots, ascending. -/
def State.slots (s : State) : List Nat := s.carriers.map (fun e => e.1)

/-- The admitted slot whose station this is (R22). -/
def State.slotOf (s : State) (st : Station) : Option Nat :=
  (s.carriers.find? (fun e => e.2.station = st)).map (fun e => e.1)

/-- IDLE and ACTIVE are the states in which the part believes a carrier (R31). -/
def Carrier.believed (c : Carrier) : Bool := c.state = .idle ∨ c.state = .active

/-- The supervision limit in cycles (R24). -/
def Carrier.silenceLimit (c : Carrier) : Nat := [3, 5, 10, 20, 30, 50, 100, 200].getD c.params.supervision 0

/-- The route entries after the head, up to and including the limit (R25). -/
def Carrier.ahead (c : Carrier) : List RouteEntry := (c.route.drop (c.head + 1)).take (c.limit - c.head)

/-- The sections a carrier holds by R25: trail oldest first, head, ahead in route order. -/
def Carrier.heldSections (c : Carrier) : List Nat :=
  c.trail.map (fun e => e.sec) ++ [c.headSection] ++ c.ahead.map (fun e => e.sec)

/-- The route index of a section in a carrier's route. -/
def Carrier.indexOf (c : Carrier) (sec : Nat) : Option Nat := c.route.findIdx? (fun e => e.sec = sec)

/-! ### Frames the part composes -/

/-- A RESULT: tag, status and data, to the source of the command, with its sequence (R162). -/
def answer (m : Mgmt) (st : Status) (data : List Byte) (s : State) : State :=
  offerOwn .d ⟨m.source, s.partStation, kindResult, m.sequence, [m.tag, st.code] ++ data⟩ s

/-- A NOTICE to the dispatch station as it stands (R170): kind code and fields (R159). -/
def notice (code : Byte) (fields : List Byte) (s : State) : State :=
  offerOwn .d ⟨s.params.dispatchStation, s.partStation, kindNotice, 0, code :: fields⟩ s

/-- NOTICE DEADLOCK (R110, R159). -/
def noticeDeadlock (requester sec : Nat) (r : BlockReason) (visited : List Nat) (s : State) : State :=
  notice 0x01 ([byte requester] ++ bytes2 sec ++ [r.code, byte visited.length] ++ visited.map byte) s

/-- NOTICE STARVED (R107, R159). -/
def noticeStarved (e : WaitEntry) (priority : Nat) (s : State) : State :=
  notice 0x02 ([byte e.slot] ++ halfBytes (s.carrier e.slot).station ++ bytes2 e.wantedSection ++
    [e.reason.code, byte (e.blocker.getD 0), byte priority]) s

/-- NOTICE LOST or QUARANTINED: slot, station, lost cause (R35, R159). -/
def noticeOut (code : Byte) (slot : Nat) (cause : LostCause) (s : State) : State :=
  notice code ([byte slot] ++ halfBytes (s.carrier slot).station ++ [cause.code]) s

/-- NOTICE REJOIN (R37, R159). -/
def noticeRejoin (slot : Nat) (cause : LostCause) (before : CarrierState) (believed : Half) (s : State) : State :=
  notice 0x05 ([byte slot] ++ halfBytes (s.carrier slot).station ++ [cause.code, before.code] ++ halfBytes believed) s

/-- NOTICE ROUTE_DONE (R74, R159). -/
def noticeRouteDone (slot : Nat) (route : Byte) (s : State) : State :=
  notice 0x06 ([byte slot] ++ halfBytes (s.carrier slot).station ++ [route] ++ bytes2 (s.carrier slot).headSection) s

/-- NOTICE PROGRESS (R71, R159). -/
def noticeProgress (slot : Nat) (s : State) : State :=
  notice 0x07 ([byte slot] ++ halfBytes (s.carrier slot).station ++
    [(s.carrier slot).routeNumber, byte (s.carrier slot).head] ++ bytes2 (s.carrier slot).headSection) s

/-- NOTICE CUTBACK_DECLINED or CUTBACK_TIMEOUT (R125, R159). -/
def noticeCutback (code : Byte) (slot : Nat) (k : CutbackRecord) (s : State) : State :=
  notice code ([byte slot] ++ halfBytes (s.carrier slot).station ++
    [(s.carrier slot).routeNumber, k.number, byte k.target, byte (s.carrier slot).head, byte (s.carrier slot).limit]) s

/-- NOTICE ROUTE_REFUSED (R54, R159). -/
def noticeRouteRefused (o : RouteOrder) (r : RefusalReason) (index : Nat) (s : State) : State :=
  notice 0x0A (halfBytes o.destination ++ [byteAt o.body 0, r.code, byte index]) s

/-- NOTICE HALTED: cause, cycle number, and for an overrun conflict slot, station and section (R143, R159). -/
def noticeHalted (cause : HaltCause) (slot : Nat) (station : Station) (sec : Nat) (s : State) : State :=
  notice 0x0B ([cause.code] ++ bytes2 s.cycle.toNat ++ [byte slot] ++ halfBytes station ++ bytes2 sec) s

/-- A GRANT or CUTBACK is sent to the carrier of a slot and becomes its last answer, admitted or not (R26, R82, R122). -/
def sendAnswer (slot : Nat) (f : Frame) (s : State) : State :=
  offerOwn .c f (s.modifyCarrier slot (fun c => { c with lastAnswer := some f }))

/-- The header sequence of a GRANT or CUTBACK (R155). -/
def Carrier.answerSequence (c : Carrier) : Byte := c.lastSequence.getD 0

/-! ### What the Track Map answers (R20) -/

/-- A section is loaded (R1). -/
def State.loaded (s : State) (sec : Nat) : Bool := (lookup s.sections sec).isSome

/-- A section's length; 0 where it is not loaded. -/
def State.lengthOf (s : State) (sec : Nat) : Nat := ((lookup s.sections sec).map (fun e => e.data.length)).getD 0

/-- A section's speed limit; 0 where it is not loaded. -/
def State.speedLimitOf (s : State) (sec : Nat) : Nat :=
  ((lookup s.sections sec).map (fun e => e.data.speedLimit)).getD 0

/-- A section's capacity; 0 where it is not loaded. -/
def State.capacityOf (s : State) (sec : Nat) : Nat := ((lookup s.sections sec).map (fun e => e.data.capacity)).getD 0

/-- A section's zone; 0 where it has none or is not loaded. -/
def State.zoneOf (s : State) (sec : Nat) : Nat := ((lookup s.sections sec).map (fun e => e.data.zone)).getD 0

/-- A section's conflict chain in chain order (R15). -/
def State.chainOf (s : State) (sec : Nat) : List ConflictRecord :=
  ((lookup s.sections sec).map (fun e => e.chain)).getD []

/-- The section is open (check 1 of R76). -/
def State.sectionOpen (s : State) (sec : Nat) : Bool := ((lookup s.sections sec).map (fun e => e.isOpen)).getD false

/-- The section has no zone, or its zone is open (check 2 of R76). -/
def State.zoneIsOpen (s : State) (sec : Nat) : Bool :=
  s.zoneOf sec = 0 || ((lookup s.zones (s.zoneOf sec)).map (fun z => z.isOpen)).getD false

/-- A section is closed in its own right or through its zone (R118). -/
def State.closed (s : State) (sec : Nat) : Bool := !(s.sectionOpen sec && s.zoneIsOpen sec)

/-- A direction is allowed for a section (R2). -/
def State.permits (s : State) (e : RouteEntry) : Bool :=
  ((lookup s.sections e.sec).map (fun x => x.data.allowed.permits e.direction)).getD false

/-! ### The Hold Table (R59 to R62) -/

/-- The hold record of a section (R59). -/
def State.hold (s : State) (sec : Nat) : HoldRecord := (lookup s.holds sec).getD .free

/-- The holders of a section, oldest first (R59). -/
def State.holders (s : State) (sec : Nat) : List Holder := (s.hold sec).holders

/-- A carrier holds a section when its slot stands in the holder list (R59). -/
def State.holdsSection (s : State) (slot sec : Nat) : Bool := (s.holders sec).any (fun h => h.slot = slot)

/-- A hold record is stored; a section whose list is empty has direction none and is free (R59, R61). -/
def State.setHold (s : State) (sec : Nat) (h : HoldRecord) : State :=
  if h.holders = [] then { s with holds := removeAt s.holds sec } else { s with holds := insertAt s.holds sec h }

/-- A zone's occupancy (R59). -/
def State.occupied (s : State) (z : Nat) : Nat := (lookup s.occupancy z).getD 0

/-- A zone's occupancy is stored. -/
def State.setOccupied (s : State) (z n : Nat) : State :=
  if n = 0 then { s with occupancy := removeAt s.occupancy z } else { s with occupancy := insertAt s.occupancy z n }

/-- The carrier holds at least one section of the zone (R59). -/
def State.countsIn (s : State) (slot z : Nat) : Bool :=
  s.holds.any (fun e => s.zoneOf e.1 = z && e.2.holders.any (fun h => h.slot = slot))

/-- The only holder of the section is this carrier, or nobody (R51, R57). -/
def State.soleHolder (s : State) (slot sec : Nat) : Bool := (s.holders sec).all (fun h => h.slot = slot)

/-- A carrier is appended to a section's holder list in hold state ACTIVE (R60). -/
def addHolder (slot : Nat) (e : RouteEntry) (s : State) : State :=
  let z := s.zoneOf e.sec
  let s1 := if z ≠ 0 && !s.countsIn slot z then s.setOccupied z (s.occupied z + 1) else s
  let h := s.hold e.sec
  s1.setHold e.sec ⟨h.holders ++ [⟨slot, .active⟩], some (h.direction.getD e.direction)⟩

/-- A carrier's entry leaves a section's holder list (R61): the state, and the zone whose occupancy was reduced. -/
def removeHolder (slot sec : Nat) (s : State) : State × Option Nat :=
  if s.holdsSection slot sec then
    let h := s.hold sec
    let s1 := s.setHold sec ⟨h.holders.filter (fun x => x.slot ≠ slot), h.direction⟩
    let z := s.zoneOf sec
    if z ≠ 0 && !s1.countsIn slot z then (s1.setOccupied z (s1.occupied z - 1), some z) else (s1, none)
  else (s, none)

/-- A carrier's hold on a section changes state in place (R62). -/
def setHoldState (slot sec : Nat) (st : HoldState) (s : State) : State :=
  let h := s.hold sec
  s.setHold sec { h with holders := h.holders.map (fun x => if x.slot = slot then { x with state := st } else x) }

/-- A held section's direction changes (R56, R57, R39). -/
def setDirection (sec : Nat) (d : Direction) (s : State) : State :=
  s.setHold sec { s.hold sec with direction := some d }

/-- The state of a carrier's hold on a section. -/
def State.holdStateOf (s : State) (slot sec : Nat) : Option HoldState :=
  ((s.holders sec).find? (fun h => h.slot = slot)).map (fun h => h.state)

/-! ### Conflicts (R15, R16) -/

/-- The test of R16 between two different carriers, by their wide flags. -/
def ConflictCondition.applies : ConflictCondition → Bool → Bool → Bool
  | .always, _, _ => true
  | .wide, x, y => x || y

/-- A carrier's wide flag as its context stores it (R16). -/
def State.wide (s : State) (slot : Nat) : Bool := (s.carrier slot).params.wide

/-- The oldest holder of a conflict record's other section, other than the carrier itself, to whom the record's
condition applies (R96). -/
def conflictHolder (s : State) (slot : Nat) (wide : Bool) (r : ConflictRecord) : Option Nat :=
  ((s.holders r.other).find? (fun h => h.slot ≠ slot && r.condition.applies wide (s.wide h.slot))).map (fun h => h.slot)

/-- Check 5 of R76: the walk of a chain stops at the first record that applies, and names its blocker (R96). -/
def conflictBlocker (s : State) (slot : Nat) (wide : Bool) (sec : Nat) : Option Nat :=
  (s.chainOf sec).findSome? (conflictHolder s slot wide)

/-! ### The acquisition checks of the Hold Table (checks 3 to 6 of R76; R33) -/

/-- The oldest holder of a section (R59). -/
def State.oldestHolder (s : State) (sec : Nat) : Option Nat := (s.holders sec).head?.map (fun h => h.slot)

/-- Check 3 of R76: another carrier's hold on the section is RECALLING or FROZEN. -/
def State.heldBack (s : State) (slot sec : Nat) : Bool :=
  (s.holders sec).any (fun h => h.slot ≠ slot && h.state ≠ .active)

/-- Check 4 of R76: fewer holders than the capacity, and free or held in this direction. -/
def State.hasRoom (s : State) (e : RouteEntry) : Bool :=
  (s.holders e.sec).length < s.capacityOf e.sec && ((s.holders e.sec).isEmpty || (s.hold e.sec).direction = some e.direction)

/-- Check 6 of R76: no zone, or the carrier already counts in it, or its occupancy is below its capacity. -/
def State.zoneHasRoom (s : State) (slot sec : Nat) : Bool :=
  let z := s.zoneOf sec
  z = 0 || s.countsIn slot z || s.occupied z < ((lookup s.zones z).map (fun x => x.capacity)).getD 0

/-- Checks 3 to 6 of R76 in order: the first that fails, with the blocker of R96. R33 and R38 use the same checks. -/
def obstacle (s : State) (slot : Nat) (wide : Bool) (e : RouteEntry) : Option (BlockReason × Option Nat) :=
  if s.heldBack slot e.sec then some (.recall, s.oldestHolder e.sec)
  else if !s.hasRoom e then some (.capacity, s.oldestHolder e.sec)
  else match conflictBlocker s slot wide e.sec with
    | some b => some (.conflict, some b)
    | none => if !s.zoneHasRoom slot e.sec then some (.zoneFull, none) else none

end Sys2Proof.Machine
end

