-- ==== Sys2Proof/Machine/Arithmetic.lean ====
section
/-! DEFINITION. The stopping arithmetic (spec/05, R84 to R94): whole numbers, exact products, quotients rounded up. -/

namespace Sys2Proof.Machine

/-- A quotient rounded up: the divisor less one is added and the result cut down (R86). -/
def ceilDiv (n d : Nat) : Nat := (n + (d - 1)) / d

/-- The braking distance B(v): v squared divided by 2a, rounded up (R86). -/
def brakingDistance (a v : Nat) : Nat := ceilDiv (v * v) (2 * a)

/-- The reaction distance R(v): v times t divided by 1000, rounded up (R86). -/
def reactionDistance (t v : Nat) : Nat := ceilDiv (v * t) 1000

/-- The stopping need D(v), clamped to 65535 (R86). -/
def stoppingNeed (a t m v : Nat) : Nat :=
  min Config.distanceClamp (brakingDistance a v + reactionDistance t v + m)

/-- D(v) for a carrier and the stopping margin in force (R84). -/
def need (s : State) (c : Carrier) (v : Nat) : Nat := stoppingNeed c.params.decel c.params.reaction s.params.margin v

/-- The available distance G(L), clamped to 65535 (R87). -/
def available (s : State) (c : Carrier) (l : Nat) : Nat :=
  min Config.distanceClamp
    (c.remaining + (((c.route.drop (c.head + 1)).take (l - c.head)).map (fun e => s.lengthOf e.sec)).sum)

/-- The first clamp v1: requested speed, vmax and the head section's speed limit (R85). -/
def firstClamp (s : State) (c : Carrier) : Nat :=
  min c.requestedSpeed (min c.params.vmax (s.speedLimitOf c.headSection))

/-- The second clamp v2: v1 and the speed limits of the sections held ahead (R89). -/
def secondClamp (s : State) (c : Carrier) : Nat :=
  (c.ahead.map (fun e => s.speedLimitOf e.sec)).foldl min (firstClamp s c)

/-- The largest multiple of 50, from the k-th down, whose need is at most the distance (R90). -/
def speedSearch (s : State) (c : Carrier) (g : Nat) : Nat → Nat
  | 0 => 0
  | k + 1 => if need s c (Config.speedStep * (k + 1)) ≤ g then Config.speedStep * (k + 1) else speedSearch s c g k

/-- The permitted speed v_p for the stored limit (R90). -/
def permittedSpeed (s : State) (c : Carrier) : Nat :=
  let v2 := secondClamp s c
  let g := available s c c.limit
  if need s c v2 ≤ g then v2
  else if s.params.margin ≤ g then speedSearch s c g (v2 / Config.speedStep)
  else 0

/-- The target of a hold-limit expiry (R117): the smallest index from the head to the limit whose distance meets the
need at v1, and the limit where none does. -/
def holdLimitTarget (s : State) (c : Carrier) : Nat :=
  ((List.range' c.head (c.limit + 1 - c.head)).find? (fun l => need s c (firstClamp s c) ≤ available s c l)).getD
    c.limit

end Sys2Proof.Machine
end

