-- ==== Sys2Proof/Machine/Waiting.lean ====
section
/-! DEFINITION. GRANTs, the wait list and the deadlock walk (R79 to R82, R95 to R101, R109 to R112). -/

namespace Sys2Proof.Machine

/-! ### GRANTs -/

/-- The fields of a GRANT that its composer chooses (R79); number and expiry follow from R80 and R81. -/
structure Grant where
  route : Byte
  limit : Nat
  distance : Nat
  speed : Nat
  reason : GrantReason
  deriving DecidableEq, Repr

/-- The condition that a GRANT's reason leaves (R29, R82). -/
def GrantReason.condition : GrantReason → Condition → Condition
  | .reduced, _ => .reduced
  | .waiting, _ => .waiting
  | .deadlock, _ => .deadlock
  | .closedAhead, _ => .closedAhead
  | .none, c => c
  | .routeEnd, c => c
  | .halted, c => c
  | .routeChange, c => c

/-- The grant's limit or speed differs from the kept ones of the last GRANT (R80). -/
def Grant.differs (g : Grant) (c : Carrier) : Bool := c.keptGrant ≠ some (g.limit, g.speed)

/-- The grant number a GRANT carries (R80). -/
def Grant.number (g : Grant) (c : Carrier) : Byte := if g.differs c then c.grantNumber + 1 else c.grantNumber

/-- The expiry cycle of a GRANT composed now, mod 4096 (R81). -/
def expiry (s : State) (c : Carrier) : BitVec 12 := s.cycle + BitVec.ofNat 12 c.params.lifetime

/-- The GRANT frame (R79, R155, R156). -/
def grantFrame (s : State) (c : Carrier) (g : Grant) : Frame :=
  ⟨c.station, s.partStation, kindGrant, c.answerSequence,
    [g.number c, g.route, byte g.limit] ++ bytes2 g.distance ++ bytes2 g.speed ++ bytes2 (expiry s c).toNat ++
      [g.reason.code]⟩

/-- A GRANT is composed and sent: number, kept values, last answer and condition follow (R80, R82). -/
def sendGrant (slot : Nat) (g : Grant) (s : State) : State :=
  let f := grantFrame s (s.carrier slot) g
  sendAnswer slot f (s.modifyCarrier slot (fun c =>
    { c with
      grantNumber := g.number c
      keptGrant := some (g.limit, g.speed)
      condition := g.reason.condition c.condition }))

/-! ### The wait list -/

/-- A carrier's wait entry (R95). -/
def State.waitOf (s : State) (slot : Nat) : Option WaitEntry := s.waits.find? (fun w => w.slot = slot)

/-- A carrier's wait ends: entry removed, passed-over count 0, effective priority back (R100). -/
def endWait (slot : Nat) (s : State) : State :=
  match s.waitOf slot with
  | none => s
  | some _ =>
    { s with waits := s.waits.filter (fun w => w.slot ≠ slot) }.modifyCarrier slot (fun c =>
      { c with passedOver := 0, effectivePriority := c.params.priority })

/-- The deadlock walk (R109): from a blocker on, at most `fuel` carriers are visited; the visited carriers, in walk
order, when the walk reaches the requester. -/
def deadlockWalk (waits : List WaitEntry) (requester : Nat) : Nat → Nat → List Nat → Option (List Nat)
  | 0, _, _ => none
  | fuel + 1, slot, visited =>
    if slot = requester then some (visited ++ [slot])
    else match (waits.find? (fun w => w.slot = slot)).bind (fun w => w.blocker) with
      | some b => deadlockWalk waits requester fuel b (visited ++ [slot])
      | none => none

/-- What a wait entry's making or update came to. -/
inductive WaitVerdict where
  | waiting
  | deadlock
  deriving DecidableEq, Repr

/-- The walk of a requester's entry (R109), and what a deadlock does (R110). -/
def walkFrom (e : WaitEntry) (s : State) : State × WaitVerdict :=
  match e.blocker.bind (fun b => deadlockWalk s.waits e.slot Config.walkVisits b []) with
  | none => (s, .waiting)
  | some visited =>
    (noticeDeadlock e.slot e.wantedSection e.reason visited
      ((endWait e.slot s).modifyCarrier e.slot (fun c => { c with condition := .deadlock })), .deadlock)

/-- A blocked failure is recorded (R97): an entry appended, walked when it has a blocker, or the carrier's entry
updated in place, walked when the blocker changed. -/
def enterWait (e : WaitEntry) (s : State) : State × WaitVerdict :=
  match s.waitOf e.slot with
  | none =>
    walkFrom e ({ s with waits := s.waits ++ [e] }.modifyCarrier e.slot (fun c =>
      { c with passedOver := 0, effectivePriority := c.params.priority }))
  | some old =>
    let s1 := { s with waits := s.waits.map (fun w => if w.slot = e.slot then e else w) }
    if e.blocker = old.blocker then (s1, .waiting) else walkFrom e s1

end Sys2Proof.Machine
end

