-- ==== Sys2Proof/Machine/Passage.lean ====
section
/-! DEFINITION. Taking sections ahead (R76 to R78, R57), the acquisition loop (R88) and the computation that step 10
of a MOVE_REQ and a re-run of the Arbiter share (R92, R104). -/

namespace Sys2Proof.Machine

/-- Why an attempt failed (R76). -/
inductive StopCause where
  | closed
  | blocked (reason : BlockReason) (blocker : Option Nat)
  deriving DecidableEq, Repr

/-- The section is in the carrier's own trail (R57). -/
def Carrier.inTrail (c : Carrier) (sec : Nat) : Bool := c.trail.any (fun e => e.sec = sec)

/-- The checks of an attempt, in order (R76); a section of the carrier's own trail is tested by R57 instead. -/
def attempt (s : State) (slot : Nat) (e : RouteEntry) : Option StopCause :=
  if (s.carrier slot).inTrail e.sec then
    if s.soleHolder slot e.sec then none
    else some (.blocked .capacity (((s.holders e.sec).find? (fun h => h.slot ≠ slot)).map (fun h => h.slot)))
  else if s.closed e.sec then some .closed
  else (obstacle s slot (s.wide slot) e).map (fun o => .blocked o.1 o.2)

/-- The section of an attempt that passed is acquired, or re-taken from the trail, and the limit rises (R57, R77). -/
def acquire (slot : Nat) (e : RouteEntry) (s : State) : State :=
  let s1 :=
    if (s.carrier slot).inTrail e.sec then
      setDirection e.sec e.direction
        (s.modifyCarrier slot (fun c => { c with trail := c.trail.filter (fun x => x.sec ≠ e.sec) }))
    else addHolder slot e s
  let s2 := s1.modifyCarrier slot (fun c => { c with limit := c.limit + 1 })
  match s2.waitOf slot with
  | some w => if w.wantedSection = e.sec then endWait slot s2 else s2
  | none => s2

/-- A failed attempt: the wanted index and section, and the cause. -/
structure Stop where
  index : Nat
  sec : Nat
  cause : StopCause
  deriving DecidableEq, Repr

/-- What the acquisition loop leaves: the state, the failure that ended it, and whether a section was gained. -/
structure LoopEnd where
  state : State
  stop : Option Stop
  gained : Bool

/-- The three conditions of R88 under which route entry L + 1 is attempted. -/
def wantsMore (s : State) (c : Carrier) : Bool :=
  available s c c.limit < need s c (firstClamp s c) && c.limit + 1 < c.route.length &&
    c.limit - c.head < s.params.lookahead

/-- The acquisition loop (R88). Each turn that goes on raises the limit, so `fuel` at the length of the route is never
used up. -/
def acquireLoop (slot : Nat) : Nat → Bool → State → LoopEnd
  | 0, gained, s => ⟨s, none, gained⟩
  | fuel + 1, gained, s =>
    let c := s.carrier slot
    if wantsMore s c then
      match c.route[c.limit + 1]? with
      | none => ⟨s, none, gained⟩
      | some e =>
        match attempt s slot e with
        | some cause => ⟨s, some ⟨c.limit + 1, e.sec, cause⟩, gained⟩
        | none => acquireLoop slot fuel true (acquire slot e s)
    else ⟨s, none, gained⟩

/-- How the loop's end stands with the Wait List (R78, R91, R98). -/
inductive WaitOutcome where
  | clear
  | closed
  | waiting
  | deadlock
  deriving DecidableEq, Repr

/-- The wait update after the loop (R78, R97, R98). -/
def settleWait (slot : Nat) (stop : Option Stop) (s : State) : State × WaitOutcome :=
  match stop with
  | none => (endWait slot s, .clear)
  | some ⟨_, _, .closed⟩ => (endWait slot s, .closed)
  | some ⟨i, sec, .blocked r b⟩ =>
    match enterWait ⟨slot, i, sec, r, b⟩ s with
    | (s1, .waiting) => (s1, .waiting)
    | (s1, .deadlock) => (s1, .deadlock)

/-- The reason of a GRANT the arithmetic composes: the first of R91 that applies. -/
def grantReason (s : State) (c : Carrier) (w : WaitOutcome) (vp : Nat) : GrantReason :=
  match w with
  | .waiting => .waiting
  | .deadlock => .deadlock
  | .closed => .closedAhead
  | .clear =>
    if c.limit + 1 = c.route.length then .routeEnd
    else if vp < firstClamp s c then .reduced
    else .none

/-- A computation of step 10: the state after loop and wait update, the GRANT it composes, and whether a section was
gained. -/
structure Computation where
  state : State
  grant : Grant
  gained : Bool

/-- The GRANT for the stored limit with a given outcome of the loop (R79, R87 to R91). -/
def limitGrant (s : State) (c : Carrier) (w : WaitOutcome) : Grant :=
  ⟨c.routeNumber, c.limit, available s c c.limit, permittedSpeed s c, grantReason s c w (permittedSpeed s c)⟩

/-- Step 10 of a MOVE_REQ from an ACTIVE carrier, and the re-run of a waiter (R92, R104). -/
def compute (slot : Nat) (s : State) : Computation :=
  let l := acquireLoop slot (s.carrier slot).route.length false s
  let w := settleWait slot l.stop l.state
  ⟨w.1, limitGrant w.1 (w.1.carrier slot) w.2, l.gained⟩

end Sys2Proof.Machine
end

