-- ==== Sys2Proof/Machine/Arbiter.lean ====
section
/-! DEFINITION. The Arbiter (R102 to R107), and the Hold Table's changes that report to it (R61, R62). -/

namespace Sys2Proof.Machine

/-- A wake event (R102). A release that also lowers a zone's occupancy is one event. -/
inductive WakeEvent where
  | released (sec : Nat) (zone : Option Nat)
  | madeActive (sec : Nat)
  | zoneRoom (zone : Nat)
  | sectionOpened (sec : Nat)
  | zoneOpened (zone : Nat)
  | conflictLoosened (a b : Nat)
  deriving DecidableEq, Repr

/-- The section's conflict chain has a record naming another (R102). -/
def State.chainNames (s : State) (sec other : Nat) : Bool := (s.chainOf sec).any (fun r => r.other = other)

/-- A waiter that wants this section is affected by the event (R102). -/
def WakeEvent.affects (s : State) (wanted : Nat) : WakeEvent → Bool
  | .released sec zone =>
    wanted = sec || s.chainNames wanted sec ||
      (match zone with
        | some z => s.zoneOf wanted = z
        | none => false)
  | .madeActive sec => wanted = sec || s.chainNames wanted sec
  | .zoneRoom z => s.zoneOf wanted = z
  | .sectionOpened sec => wanted = sec
  | .zoneOpened z => s.zoneOf wanted = z
  | .conflictLoosened a b => wanted = a || wanted = b || s.chainNames wanted a || s.chainNames wanted b

/-- The affected waiters of an event, highest effective priority first, then earliest on the list (R103). -/
def affectedSlots (s : State) (ev : WakeEvent) : List Nat :=
  let slots := (s.waits.filter (fun w => ev.affects s w.wantedSection)).map (fun w => w.slot)
  [3, 2, 1, 0].flatMap (fun p => slots.filter (fun n => (s.carrier n).effectivePriority = p))

/-- A waiter passed over (R106), and what the third pass-over does (R107). -/
def passOver (slot : Nat) (s : State) : State :=
  let c := s.carrier slot
  if c.passedOver + 1 < 3 then s.modifyCarrier slot (fun c => { c with passedOver := c.passedOver + 1 })
  else
    let raised := min 3 (c.effectivePriority + 1)
    match s.waitOf slot with
    | none => s
    | some e =>
      (noticeStarved e raised s).modifyCarrier slot (fun c =>
        { c with effectivePriority := raised, passedOver := 0 })

/-- One re-run (R104): step 10 repeated, its GRANT sent if limit or speed differ, and the pass-over counted when an
earlier re-run of the event has gained a section (R106). The flag says whether a section has been gained so far. -/
def rerun (slot : Nat) (gainedBefore : Bool) (s : State) : State × Bool :=
  let k := compute slot s
  let s1 := if k.grant.differs (k.state.carrier slot) then sendGrant slot k.grant k.state else k.state
  let s2 := if gainedBefore && !k.gained && (s1.waitOf slot).isSome then passOver slot s1 else s1
  (s2, gainedBefore || k.gained)

/-- A waiter is passed by: no entry any more, a cutback in flight, or the requester of the release (R103, R105). -/
def passedBy (requester : Option Nat) (slot : Nat) (s : State) : Bool :=
  (s.waitOf slot).isNone || (s.carrier slot).cutback.isSome || requester = some slot

/-- The re-runs of one event in their fixed order (R103). -/
def rerunAll (requester : Option Nat) : List Nat → Bool → State → State
  | [], _, s => s
  | slot :: rest, gained, s =>
    if passedBy requester slot s then rerunAll requester rest gained s
    else
      let r := rerun slot gained s
      rerunAll requester rest r.2 r.1

/-- A wake event is handled with all its re-runs; no waiter is re-run unless the part is RUNNING (R103, R105). -/
def wake (ev : WakeEvent) (requester : Option Nat) (s : State) : State :=
  if s.partState = .running then rerunAll requester (affectedSlots s ev) false s else s

/-- A hold is released and reported to the Arbiter (R61). -/
def release (slot sec : Nat) (requester : Option Nat) (s : State) : State :=
  if s.holdsSection slot sec then
    let r := removeHolder slot sec s
    wake (.released sec r.2) requester r.1
  else s

/-- Holds are released one after another, each wake event handled before the next release (R102). -/
def releaseAll (slot : Nat) (requester : Option Nat) : List Nat → State → State
  | [], s => s
  | sec :: rest, s => releaseAll slot requester rest (release slot sec requester s)

/-- A RECALLING or FROZEN hold becomes ACTIVE and is reported to the Arbiter (R62). -/
def makeActive (slot sec : Nat) (s : State) : State :=
  wake (.madeActive sec) none (setHoldState slot sec .active s)

end Sys2Proof.Machine
end

