-- ==== Sys2Proof/Machine/Cutback.lean ====
section
/-! DEFINITION. The cutback protocol (R114 to R130): triggers, the handshake and its ends. -/

namespace Sys2Proof.Machine

/-- The sections of route entries from index `lo` + 1 through `hi` (R114). -/
def Carrier.sectionsBetween (c : Carrier) (lo hi : Nat) : List Nat :=
  ((c.route.drop (lo + 1)).take (hi - lo)).map (fun e => e.sec)

/-- The CUTBACK frame: number, stored route number, target index, target distance (R122, R155, R156). -/
def cutbackFrame (s : State) (c : Carrier) (number : Byte) (target : Nat) : Frame :=
  ⟨c.station, s.partStation, kindCutback, c.answerSequence,
    [number, c.routeNumber, byte target] ++ bytes2 (available s c target)⟩

/-- Holds of a carrier on some sections become RECALLING, in place and unreported (R62, R120). -/
def recallHolds (slot : Nat) (secs : List Nat) (s : State) : State :=
  secs.foldl (fun s sec => setHoldState slot sec .recalling s) s

/-- A cutback is begun (R120) or superseded (R121): the holds above the target and up to `upto` become RECALLING, the
number advances, the record is set with a timeout loaded afresh, and the CUTBACK is sent (R122). -/
def setCutback (slot target upto : Nat) (s : State) : State :=
  let c := s.carrier slot
  let n := c.cutbackNumber + 1
  let f := cutbackFrame s c n target
  sendAnswer slot f ((recallHolds slot (c.sectionsBetween target upto) s).modifyCarrier slot (fun c =>
    { c with cutbackNumber := n, cutback := some ⟨n, target, s.params.cutbackTimeout, f⟩ }))

/-- A trigger reaches a carrier (R120, R121): a cutback begins, is superseded by a lower target, or absorbs it. -/
def trigger (slot target : Nat) (s : State) : State :=
  let c := s.carrier slot
  match c.cutback with
  | none =>
    if c.state = .active && target < c.limit then
      setCutback slot target c.limit (s.modifyCarrier slot (fun c => { c with holdIdle := 0 }))
    else s
  | some k => if target < k.target then setCutback slot target k.target s else s

/-- The cutback record becomes none and the hold-idle counter 0 (R124, R125). -/
def clearRecord (slot : Nat) (s : State) : State :=
  s.modifyCarrier slot (fun c => { c with cutback := none, holdIdle := 0 })

/-- An accepted cutback (R124): the recalled sections are released in route order while the record still stands, then
the limit becomes the target and the record none. -/
def acceptCutback (slot : Nat) (k : CutbackRecord) (s : State) : State :=
  let c := s.carrier slot
  clearRecord slot
    ((releaseAll slot none (c.sectionsBetween k.target c.limit) s).modifyCarrier slot (fun c =>
      { c with limit := k.target }))

/-- Each hold of the listed sections that is still RECALLING becomes ACTIVE, each reported before the next (R125). -/
def restoreHolds (slot : Nat) : List Nat → State → State
  | [], s => s
  | sec :: rest, s =>
    restoreHolds slot rest (if s.holdStateOf slot sec = some .recalling then makeActive slot sec s else s)

/-- A cutback that ends without acceptance (R125), with its condition and its notice. -/
def endUnaccepted (slot : Nat) (k : CutbackRecord) (cond : Condition) (code : Byte) (s : State) : State :=
  let c := s.carrier slot
  noticeCutback code slot k
    ((clearRecord slot (restoreHolds slot (c.sectionsBetween k.target c.limit) s)).modifyCarrier slot (fun c =>
      { c with condition := cond }))

/-- A decline, explicit or implicit (R73, R125, R126). -/
def declineCutback (slot : Nat) (k : CutbackRecord) (s : State) : State :=
  endUnaccepted slot k .cutbackDeclined 0x08 s

/-- A timeout (R125, R127). -/
def timeOutCutback (slot : Nat) (k : CutbackRecord) (s : State) : State :=
  endUnaccepted slot k .cutbackTimeout 0x09 s

/-- A frame from a carrier the part believes restarts its silence counter and clears probe sent (R64). -/
def refresh (slot : Nat) (s : State) : State :=
  s.modifyCarrier slot (fun c => { c with silence := 0, probeSent := false })

/-- The Cutback Unit takes an acknowledgement for a slot (R123, R36). -/
def takeAck (slot : Nat) (a : CutbackAck) (s : State) : State :=
  if (s.carrier slot).believed then
    let s1 := refresh slot s
    match (s.carrier slot).cutback with
    | none => s1
    | some k =>
      if a.number ≠ k.number then s1
      else if a.verdict = 0x01 then acceptCutback slot k s1
      else if a.verdict = 0x02 then declineCutback slot k s1
      else s1
  else s

/-- The first index above the head, up to the limit, whose section is closed (R118). -/
def firstClosedAhead (s : State) (c : Carrier) : Option Nat :=
  (c.ahead.findIdx? (fun e => s.closed e.sec)).map (fun i => c.head + 1 + i)

/-- The close trigger for one carrier (R118): an ACTIVE carrier that holds, ahead, a section that is now closed, in its
own right or through its zone, keeps its route up to just before the first such section (log entry 16). -/
def closeTrigger (slot : Nat) (s : State) : State :=
  let c := s.carrier slot
  if c.state = .active then
    match firstClosedAhead s c with
    | some i => trigger slot (i - 1) s
    | none => s
  else s

/-- The close triggers of all carriers, in ascending slot order (R118). -/
def closeTriggers (s : State) : State := s.slots.foldl (fun s slot => closeTrigger slot s) s

/-- A wait removed by a close (R101): the entry ends; a RUNNING part with no cutback in flight for the carrier sends it
a GRANT with reason CLOSED_AHEAD, otherwise only the condition is set. -/
def closeWait (slot : Nat) (s : State) : State :=
  let s1 := endWait slot s
  let c := s1.carrier slot
  if s1.partState = .running && c.cutback.isNone then
    sendGrant slot ⟨c.routeNumber, c.limit, available s1 c c.limit, permittedSpeed s1 c, .closedAhead⟩ s1
  else s1.modifyCarrier slot (fun c => { c with condition := .closedAhead })

/-- The waits a close removes, in list order: those for space it closed, but for waits to re-take a section of the
carrier's own trail (R101). -/
def closedWaits (closes : Nat → Bool) (s : State) : List Nat :=
  (s.waits.filter (fun w => closes w.wantedSection && !(s.carrier w.slot).inTrail w.wantedSection)).map (fun w => w.slot)

/-- What a close does to the traffic: waits first, then cutbacks (R9, R11, R101, R118). -/
def closeTraffic (closes : Nat → Bool) (s : State) : State :=
  closeTriggers ((closedWaits closes s).foldl (fun s slot => closeWait slot s) s)

end Sys2Proof.Machine
end

