-- ==== Sys2Proof/Machine/TrackMap.lean ====
section
/-! DEFINITION. The map commands (R3 to R19). Each `handle` takes the command after the classifier has handed its frame
over, checks the parameter length (R161) and its own rule's checks, applies it and sends the RESULT (R162). -/

namespace Sys2Proof.Machine

/-- A RESULT with a status other than OK and no data. -/
def refuse (m : Mgmt) (st : Status) (s : State) : State := answer m st [] s

/-! ### Loading sections (R3 to R6) -/

/-- A section is referenced: held, wanted by a wait entry, or in a stored route (R6). -/
def State.referenced (s : State) (sec : Nat) : Bool :=
  !(s.holders sec).isEmpty || s.waits.any (fun w => w.wantedSection = sec) ||
    s.carriers.any (fun e => e.2.routeNumber ≠ 0 && e.2.route.any (fun x => x.sec = sec))

/-- The checks of a section record in the order of R4: none when it passes. -/
def checkSection (s : State) (sec : Nat) (r : Option SectionRecord) : Option Status :=
  if !sectionNumber sec then some .badValue
  else match r with
    | none => some .badValue
    | some d =>
      if !d.fieldsInRange then some .badValue
      else if !d.capacityFits then some .badValue
      else if d.zone ≠ 0 && (lookup s.zones d.zone).isNone then some .noSuch
      else if s.referenced sec && (lookup s.sections sec).map (fun e => e.data) ≠ some d then some .inUse
      else none

/-- A record is applied (R5): a new section is open with an empty chain, a loaded one keeps open state and chain. -/
def loadSection (sec : Nat) (d : SectionRecord) (s : State) : State :=
  match lookup s.sections sec with
  | none => { s with sections := insertAt s.sections sec ⟨d, true, []⟩ }
  | some e => { s with sections := insertAt s.sections sec { e with data := d } }

/-- Records applied in order up to the first that fails (R3): the state, the status and the number applied. -/
def loadSections (bs : List Byte) (first : Nat) : Nat → Nat → State → State × Status × Nat
  | 0, i, s => (s, .ok, i)
  | n + 1, i, s =>
    match checkSection s (first + i) (recordAt bs (3 + 12 * i)), recordAt bs (3 + 12 * i) with
    | some st, _ => (s, st, i)
    | none, none => (s, .badValue, i)
    | none, some d => loadSections bs first n (i + 1) (loadSection (first + i) d s)

/-- SECTION_LOAD (R3): at most 19 records, and the length must match the count (R158). -/
def handleSectionLoad (m : Mgmt) (s : State) : State :=
  let n := numAt m.params 2
  if m.params.length < 3 || m.params.length ≠ 3 + 12 * n || 19 < n then answer m .badValue [byte 0] s
  else
    let r := loadSections m.params (numAt2 m.params 0) n 0 s
    answer m r.2.1 [byte r.2.2] r.1

/-! ### Loading zones (R8) -/

/-- The checks of a zone record in the order of R8: none when it passes. -/
def checkZone (s : State) (z capacity : Nat) : Option Status :=
  if !zoneNumber z then some .badValue
  else if !(1 ≤ capacity ∧ capacity ≤ 64 : Bool) then some .badValue
  else if capacity < s.occupied z then some .inUse
  else none

/-- A zone record is applied (R8); a raised capacity of a loaded zone is a wake event. -/
def loadZone (z capacity : Nat) (s : State) : State :=
  match lookup s.zones z with
  | none => { s with zones := insertAt s.zones z ⟨capacity, true⟩ }
  | some e =>
    let s1 := { s with zones := insertAt s.zones z { e with capacity := capacity } }
    if e.capacity < capacity then wake (.zoneRoom z) none s1 else s1

/-- Zone records applied in order up to the first that fails (R8). -/
def loadZones (bs : List Byte) (first : Nat) : Nat → Nat → State → State × Status × Nat
  | 0, i, s => (s, .ok, i)
  | n + 1, i, s =>
    match checkZone s (first + i) (numAt bs (2 + i)) with
    | some st => (s, st, i)
    | none => loadZones bs first n (i + 1) (loadZone (first + i) (numAt bs (2 + i)) s)

/-- ZONE_LOAD (R8). -/
def handleZoneLoad (m : Mgmt) (s : State) : State :=
  let n := numAt m.params 1
  if m.params.length < 2 || m.params.length ≠ 2 + n then answer m .badValue [byte 0] s
  else
    let r := loadZones m.params (numAt m.params 0) n 0 s
    answer m r.2.1 [byte r.2.2] r.1

/-! ### Opening and closing (R9 to R12) -/

/-- A section's open state is set. -/
def setSectionOpen (sec : Nat) (o : Bool) (s : State) : State :=
  match lookup s.sections sec with
  | some e => { s with sections := insertAt s.sections sec { e with isOpen := o } }
  | none => s

/-- A zone's open state is set. -/
def setZoneOpen (z : Nat) (o : Bool) (s : State) : State :=
  match lookup s.zones z with
  | some e => { s with zones := insertAt s.zones z { e with isOpen := o } }
  | none => s

/-- A section command of two parameter bytes, with the refusals of R9 and R10. -/
def onSection (m : Mgmt) (apply : Nat → SectionEntry → State → State) (s : State) : State :=
  if m.params.length ≠ 2 then refuse m .badValue s
  else
    let sec := numAt2 m.params 0
    if !sectionNumber sec then refuse m .badValue s
    else match lookup s.sections sec with
      | none => refuse m .noSuch s
      | some e => answer m .ok [] (apply sec e s)

/-- A zone command of one parameter byte, with the refusals of R11 and R12. -/
def onZone (m : Mgmt) (apply : Nat → ZoneEntry → State → State) (s : State) : State :=
  if m.params.length ≠ 1 then refuse m .badValue s
  else
    let z := numAt m.params 0
    if !zoneNumber z then refuse m .badValue s
    else match lookup s.zones z with
      | none => refuse m .noSuch s
      | some e => answer m .ok [] (apply z e s)

/-- SECTION_OPEN (R10). -/
def handleSectionOpen (m : Mgmt) (s : State) : State :=
  onSection m (fun sec e s => if e.isOpen then s else wake (.sectionOpened sec) none (setSectionOpen sec true s)) s

/-- SECTION_CLOSE (R9). -/
def handleSectionClose (m : Mgmt) (s : State) : State :=
  onSection m (fun sec e s =>
    if e.isOpen then closeTraffic (fun n => n = sec) (setSectionOpen sec false s) else s) s

/-- ZONE_OPEN (R12). -/
def handleZoneOpen (m : Mgmt) (s : State) : State :=
  onZone m (fun z e s => if e.isOpen then s else wake (.zoneOpened z) none (setZoneOpen z true s)) s

/-- ZONE_CLOSE (R11). -/
def handleZoneClose (m : Mgmt) (s : State) : State :=
  onZone m (fun z e s =>
    if e.isOpen then closeTraffic (fun n => s.zoneOf n = z) (setZoneOpen z false s) else s) s

/-! ### Conflicts (R14 to R19) -/

/-- The record naming one section on another's chain (R15). -/
def State.conflictBetween (s : State) (a b : Nat) : Option ConflictRecord :=
  (s.chainOf a).find? (fun r => r.other = b)

/-- A section's chain is replaced. -/
def setChain (sec : Nat) (f : List ConflictRecord → List ConflictRecord) (s : State) : State :=
  match lookup s.sections sec with
  | some e => { s with sections := insertAt s.sections sec { e with chain := f e.chain } }
  | none => s

/-- Check 4 of R17: some carrier on a and a different one on b to which the condition applies. -/
def conflictInUse (s : State) (a b : Nat) (cond : ConflictCondition) : Bool :=
  (s.holders a).any (fun x => (s.holders b).any (fun y =>
    x.slot ≠ y.slot && cond.applies (s.wide x.slot) (s.wide y.slot)))

/-- The front record of the free list is taken and appended to a chain (R14, R17). -/
def appendConflict (sec other : Nat) (cond : ConflictCondition) (s : State) : State :=
  match s.freeRecords with
  | [] => s
  | n :: rest => setChain sec (fun ch => ch ++ [⟨n, other, cond⟩]) { s with freeRecords := rest }

/-- The record naming `other` is unlinked from a chain and put at the front of the free list (R19). -/
def unlinkConflict (sec other : Nat) (s : State) : State :=
  match s.conflictBetween sec other with
  | some r =>
    setChain sec (fun ch => ch.filter (fun x => x.other ≠ other)) { s with freeRecords := r.record :: s.freeRecords }
  | none => s

/-- The record naming `other` takes a condition where it stands (R18). -/
def changeConflict (sec other : Nat) (cond : ConflictCondition) (s : State) : State :=
  setChain sec (fun ch => ch.map (fun r => if r.other = other then { r with condition := cond } else r)) s

/-- The number of free records as RESULT data (R14). -/
def freeData (s : State) : List Byte := bytes2 s.freeRecords.length

/-- The new pair of R17: the front record to a's chain, the next to b's. -/
def addPair (a b : Nat) (cond : ConflictCondition) (s : State) : State :=
  appendConflict b a cond (appendConflict a b cond s)

/-- The changed pair of R18; a change from ALWAYS to WIDE is reported as a conflict removed. -/
def changePair (a b : Nat) (old cond : ConflictCondition) (s : State) : State :=
  let s1 := changeConflict b a cond (changeConflict a b cond s)
  if old = .always && cond = .wide then wake (.conflictLoosened a b) none s1 else s1

/-- CONFLICT_ADD (R17, R18). -/
def handleConflictAdd (m : Mgmt) (s : State) : State :=
  if m.params.length ≠ 5 then refuse m .badValue s
  else
    let a := numAt2 m.params 0
    let b := numAt2 m.params 2
    match ConflictCondition.ofCode (byteAt m.params 4) with
    | none => refuse m .badValue s
    | some cond =>
      if !sectionNumber a || !sectionNumber b then refuse m .badValue s
      else if a = b then refuse m .badValue s
      else if !s.loaded a || !s.loaded b then refuse m .noSuch s
      else if conflictInUse s a b cond then refuse m .inUse s
      else match s.conflictBetween a b with
        | some r =>
          let s1 := changePair a b r.condition cond s
          answer m .ok (freeData s1) s1
        | none =>
          if s.freeRecords.length < 2 then refuse m .noRoom s
          else if Config.maxChain ≤ (s.chainOf a).length || Config.maxChain ≤ (s.chainOf b).length then
            refuse m .tooLong s
          else
            let s1 := addPair a b cond s
            answer m .ok (freeData s1) s1

/-- The pair's records leave both chains, a's first (R19). -/
def removePair (a b : Nat) (s : State) : State := unlinkConflict b a (unlinkConflict a b s)

/-- CONFLICT_REMOVE (R19). -/
def handleConflictRemove (m : Mgmt) (s : State) : State :=
  if m.params.length ≠ 4 then refuse m .badValue s
  else
    let a := numAt2 m.params 0
    let b := numAt2 m.params 2
    if !sectionNumber a || !sectionNumber b || a = b then refuse m .badValue s
    else if !s.loaded a || !s.loaded b then refuse m .noSuch s
    else if (s.conflictBetween a b).isNone then refuse m .noSuch s
    else
      let s1 := wake (.conflictLoosened a b) none (removePair a b s)
      answer m .ok (freeData s1) s1

/-! ### The commands -/

/-- SECTION_LOAD (R3 to R6). -/
def execSectionLoad (m : Mgmt) (s : State) : Host.Outcome State Fault Refusal :=
  .next (takeFrame .d (mgmtFrame m codeSectionLoad s.partStation) (handleSectionLoad m) s)

/-- ZONE_LOAD (R8). -/
def execZoneLoad (m : Mgmt) (s : State) : Host.Outcome State Fault Refusal :=
  .next (takeFrame .d (mgmtFrame m codeZoneLoad s.partStation) (handleZoneLoad m) s)

/-- SECTION_OPEN (R10). -/
def execSectionOpen (m : Mgmt) (s : State) : Host.Outcome State Fault Refusal :=
  .next (takeFrame .d (mgmtFrame m codeSectionOpen s.partStation) (handleSectionOpen m) s)

/-- SECTION_CLOSE (R9). -/
def execSectionClose (m : Mgmt) (s : State) : Host.Outcome State Fault Refusal :=
  .next (takeFrame .d (mgmtFrame m codeSectionClose s.partStation) (handleSectionClose m) s)

/-- ZONE_OPEN (R12). -/
def execZoneOpen (m : Mgmt) (s : State) : Host.Outcome State Fault Refusal :=
  .next (takeFrame .d (mgmtFrame m codeZoneOpen s.partStation) (handleZoneOpen m) s)

/-- ZONE_CLOSE (R11). -/
def execZoneClose (m : Mgmt) (s : State) : Host.Outcome State Fault Refusal :=
  .next (takeFrame .d (mgmtFrame m codeZoneClose s.partStation) (handleZoneClose m) s)

/-- CONFLICT_ADD (R17, R18). -/
def execConflictAdd (m : Mgmt) (s : State) : Host.Outcome State Fault Refusal :=
  .next (takeFrame .d (mgmtFrame m codeConflictAdd s.partStation) (handleConflictAdd m) s)

/-- CONFLICT_REMOVE (R19). -/
def execConflictRemove (m : Mgmt) (s : State) : Host.Outcome State Fault Refusal :=
  .next (takeFrame .d (mgmtFrame m codeConflictRemove s.partStation) (handleConflictRemove m) s)

end Sys2Proof.Machine
end

