-- ==== Sys2Proof/Machine/CarrierCommands.lean ====
section
/-! DEFINITION. The carrier commands: admission, retirement, clearing, recall and query (R32, R33, R38 to R41, R119). -/

namespace Sys2Proof.Machine

/-! ### Admission (R32, R33) -/

/-- The parameters of CARRIER_ADMIT as they stand in its frame (R158). -/
structure AdmitOrder where
  slot : Nat
  station : Station
  wideCode : Byte
  params : AdmissionParams
  headSection : Nat
  directionCode : Byte
  deriving DecidableEq, Repr

/-- The seventeen parameter bytes of CARRIER_ADMIT (R158). -/
def AdmitOrder.ofParams (bs : List Byte) : AdmitOrder where
  slot := numAt bs 0
  station := halfAt bs 1
  wideCode := byteAt bs 4
  params :=
    { priority := numAt bs 3
      wide := byteAt bs 4 = 1
      vmax := numAt2 bs 5
      decel := numAt2 bs 7
      reaction := numAt2 bs 9
      supervision := numAt bs 11
      lifetime := numAt bs 12
      progress := numAt bs 13 }
  headSection := numAt2 bs 14
  directionCode := byteAt bs 16

/-- Every parameter lies in its range of R23. -/
def AdmissionParams.inRange (p : AdmissionParams) : Bool :=
  p.priority ≤ 3 ∧ 100 ≤ p.vmax ∧ p.vmax ≤ 4000 ∧ 100 ≤ p.decel ∧ p.decel ≤ 3000 ∧ p.reaction ≤ 2000 ∧
    p.supervision ≤ 7 ∧ 2 ≤ p.lifetime ∧ p.lifetime ≤ 63 ∧ p.progress ≤ 15

/-- A station no carrier may take: 0x0000, the broadcast, the part station, the dispatch station (R22). -/
def State.reservedStation (s : State) (st : Station) : Bool :=
  st = 0 ∨ st = Config.broadcast ∨ st = s.partStation ∨ st = s.params.dispatchStation

/-- The context of a carrier just admitted (R25 to R30, R33). -/
def admittedContext (o : AdmitOrder) : Carrier :=
  { Carrier.vacant with
    state := .idle
    station := o.station
    params := o.params
    headSection := o.headSection
    effectivePriority := o.params.priority }

/-- An admission takes effect (R33). -/
def admitCarrier (o : AdmitOrder) (d : Direction) (s : State) : State :=
  addHolder o.slot ⟨o.headSection, d⟩ (s.putCarrier o.slot (admittedContext o))

/-- The checks of CARRIER_ADMIT in the order of R32: a status, or the direction of a passed admission. -/
def checkAdmit (o : AdmitOrder) (s : State) : Status ⊕ Direction :=
  if s.partState = .unconfigured then .inl .wrongState
  else if !slotNumber o.slot || s.reservedStation o.station || !o.params.inRange ||
      !(o.wideCode = 0 ∨ o.wideCode = 1 : Bool) || !sectionNumber o.headSection then .inl .badValue
  else match Direction.ofCode o.directionCode with
    | none => .inl .badValue
    | some d =>
      if s.admitted o.slot then .inl .inUse
      else if (s.slotOf o.station).isSome then .inl .inUse
      else if !s.loaded o.headSection then .inl .noSuch
      else if !s.permits ⟨o.headSection, d⟩ then .inl .badValue
      else if (obstacle s o.slot o.params.wide ⟨o.headSection, d⟩).isSome then .inl .inUse
      else .inr d

/-- CARRIER_ADMIT (R32, R33). -/
def handleCarrierAdmit (m : Mgmt) (s : State) : State :=
  if m.params.length ≠ 17 then refuse m .badValue s
  else match checkAdmit (AdmitOrder.ofParams m.params) s with
    | .inl st => refuse m st s
    | .inr d => answer m .ok [] (admitCarrier (AdmitOrder.ofParams m.params) d s)

/-! ### Retirement (R40) -/

/-- Every wait entry that names the slot as its blocker has its blocker set to none (R40). -/
def strikeBlocker (slot : Nat) (s : State) : State :=
  { s with waits := s.waits.map (fun w => if w.blocker = some slot then { w with blocker := none } else w) }

/-- A carrier is retired (R40): wait removed, blockers struck, holds released with their wake events, slot VACANT. -/
def retire (slot : Nat) (s : State) : State :=
  (releaseAll slot none (s.carrier slot).heldSections (strikeBlocker slot (endWait slot s))).vacate slot

/-- CARRIER_RETIRE (R40). -/
def handleCarrierRetire (m : Mgmt) (s : State) : State :=
  if m.params.length ≠ 1 then refuse m .badValue s
  else
    let slot := numAt m.params 0
    if !slotNumber slot then refuse m .badValue s
    else if !s.admitted slot then refuse m .noSuch s
    else if (s.carrier slot).cutback.isSome then refuse m .busy s
    else answer m .ok [] (retire slot s)

/-! ### Clearing (R38, R39) -/

/-- A clear's statement of where the carrier stands: head and trail, oldest first (R38). -/
structure Position where
  head : RouteEntry
  trail : List RouteEntry
  deriving DecidableEq, Repr

/-- The named sections, trail oldest first and then the head. -/
def Position.entries (p : Position) : List RouteEntry := p.trail ++ [p.head]

/-- A section is named by a clear. -/
def Position.names (p : Position) (sec : Nat) : Bool := p.entries.any (fun e => e.sec = sec)

/-- The position in a CARRIER_CLEAR's parameters, none where a direction is neither FWD nor REV (R158). -/
def Position.ofParams (bs : List Byte) : Option Position :=
  match Direction.ofCode (byteAt bs 3), entriesAt bs 5 (numAt bs 4) with
  | some d, some t => some ⟨⟨numAt2 bs 1, d⟩, t⟩
  | _, _ => none

/-- The sections the carrier holds that a clear does not name, in the order of R39: trail, head, ahead. -/
def unnamedHolds (s : State) (slot : Nat) (p : Position) : List Nat :=
  (s.carrier slot).heldSections.filter (fun sec => s.holdsSection slot sec && !p.names sec)

/-- The Hold Table with the carrier's unnamed holds left out, as check 7 of R38 reads it. -/
def withoutUnnamed (slot : Nat) (p : Position) (s : State) : State :=
  (unnamedHolds s slot p).foldl (fun s sec => (removeHolder slot sec s).1) s

/-- Check 7 of R38 for one named section: keepable, or obtainable. -/
def keepableOrObtainable (s : State) (slot : Nat) (e : RouteEntry) : Bool :=
  if s.holdsSection slot e.sec then s.soleHolder slot e.sec || (s.hold e.sec).direction = some e.direction
  else (obstacle s slot (s.wide slot) e).isNone

/-- Step 1 of R39 for one named section that the carrier holds: ACTIVE, its direction the named one where the carrier
is the sole holder, and reported. -/
def keepHold (slot : Nat) (e : RouteEntry) (s : State) : State :=
  makeActive slot e.sec (if s.soleHolder slot e.sec then setDirection e.sec e.direction s else s)

/-- Steps 4 and 5 of R39: the context of a cleared carrier. -/
def clearedContext (p : Position) (c : Carrier) : Carrier :=
  { c with
    state := .idle
    routeNumber := 0
    route := []
    head := 0
    limit := 0
    headSection := p.head.sec
    trail := p.trail
    remaining := 0
    requestedSpeed := 0
    lastSequence := none
    lastAnswer := none
    keptGrant := none
    silence := 0
    probeSent := false
    holdIdle := 0
    badRun := 0
    releases := 0
    passedOver := 0
    effectivePriority := c.params.priority
    lostCause := .none }

/-- Step 1 of R39 for the named sections the carrier holds, each report handled before the next (R102). -/
def keepHolds (slot : Nat) (kept : List RouteEntry) (s : State) : State := kept.foldl (fun s e => keepHold slot e s) s

/-- Step 2 of R39 for the named sections the carrier does not hold; it wakes no one. -/
def takeHolds (slot : Nat) (taken : List RouteEntry) (s : State) : State := taken.foldl (fun s e => addHolder slot e s) s

/-- Steps 1 and 2 of R39 in their order. Where a re-run of step 1 has taken what step 2 is to acquire, which would break
R38 and R59, step 2 is entered before the reports of step 1 are handled (log entry 25). -/
def placeHolds (slot : Nat) (kept taken : List RouteEntry) (s : State) : State :=
  let s1 := keepHolds slot kept s
  if taken.all (fun e => (obstacle s1 slot (s1.wide slot) e).isNone) then takeHolds slot taken s1
  else keepHolds slot kept (takeHolds slot taken s)

/-- A clear takes effect (R39): steps 1 and 2, the releases of step 3, and the context of steps 4 and 5. -/
def clear (slot : Nat) (p : Position) (s : State) : State :=
  let kept := p.entries.filter (fun e => s.holdsSection slot e.sec)
  let taken := p.entries.filter (fun e => !s.holdsSection slot e.sec)
  (releaseAll slot none (unnamedHolds s slot p) (placeHolds slot kept taken s)).modifyCarrier slot (clearedContext p)

/-- The checks of CARRIER_CLEAR after check 1, in the order of R38. -/
def checkClear (s : State) (slot : Nat) (p : Position) : Option Status :=
  if !s.admitted slot then some .noSuch
  else if (s.carrier slot).believed then some .wrongState
  else if !(p.entries.map (fun e => e.sec)).Nodup then some .badValue
  else if !p.entries.all (fun e => s.loaded e.sec) then some .noSuch
  else if !p.entries.all (fun e => s.permits e) then some .badValue
  else if !p.entries.all (fun e => keepableOrObtainable (withoutUnnamed slot p s) slot e) then some .inUse
  else none

/-- CARRIER_CLEAR (R38, R39). -/
def handleCarrierClear (m : Mgmt) (s : State) : State :=
  if m.params.length < 5 || m.params.length ≠ 5 + 3 * numAt m.params 4 then refuse m .badValue s
  else
    let slot := numAt m.params 0
    match Position.ofParams m.params with
    | none => refuse m .badValue s
    | some p =>
      if !slotNumber slot || !p.entries.all (fun e => sectionNumber e.sec) || Config.maxTrail < p.trail.length then
        refuse m .badValue s
      else match checkClear s slot p with
        | some st => refuse m st s
        | none => answer m .ok [] (clear slot p s)

/-! ### Recall (R119) -/

/-- The data of an OK RESULT of CARRIER_RECALL (R119). -/
def recallData (c : Carrier) : List Byte := [c.cutbackNumber, byte ((c.cutback.map (fun k => k.target)).getD 255)]

/-- CARRIER_RECALL (R119). -/
def handleCarrierRecall (m : Mgmt) (s : State) : State :=
  if m.params.length ≠ 2 then refuse m .badValue s
  else
    let slot := numAt m.params 0
    let target := numAt m.params 1
    let c := s.carrier slot
    if !slotNumber slot || 31 < target then refuse m .badValue s
    else if !s.admitted slot then refuse m .noSuch s
    else if !c.believed then refuse m .wrongState s
    else if target < c.head || c.limit < target then refuse m .badValue s
    else
      let s1 := if target = c.limit then s else trigger slot target s
      answer m .ok (recallData (s1.carrier slot)) s1

/-! ### Query (R41) -/

/-- The trail in three places, unused places 0 (R158). -/
def trailBytes (t : List RouteEntry) : List Byte :=
  ((t.map RouteEntry.bytes).flatten ++ List.replicate 9 0).take 9

/-- The context snapshot of CARRIER_QUERY (R41, R158). -/
def snapshot (c : Carrier) : List Byte :=
  [c.state.code] ++ halfBytes c.station ++
    [byte c.params.priority, byte c.effectivePriority, byte c.params.wide.toNat] ++ bytes2 c.params.vmax ++
    bytes2 c.params.decel ++ bytes2 c.params.reaction ++
    [byte c.params.supervision, byte c.params.lifetime, byte c.params.progress, c.routeNumber, byte c.route.length,
      byte c.head, byte c.limit] ++
    bytes2 c.headSection ++ [byte c.trail.length] ++ trailBytes c.trail ++ bytes2 c.remaining ++
    bytes2 c.requestedSpeed ++ bytes2 ((c.lastSequence.map (fun q => q.toNat)).getD 256) ++
    [c.grantNumber, c.cutbackNumber, byte ((c.cutback.map (fun k => k.target)).getD 255), byte c.silence,
      byte c.holdIdle, byte c.badRun, byte c.passedOver, c.lostCause.code, c.condition.code] ++
    (c.route.map RouteEntry.bytes).flatten

/-- CARRIER_QUERY (R41): the snapshot, and the condition is set to NONE. -/
def handleCarrierQuery (m : Mgmt) (s : State) : State :=
  if m.params.length ≠ 1 then refuse m .badValue s
  else
    let slot := numAt m.params 0
    if !slotNumber slot then refuse m .badValue s
    else if !s.admitted slot then refuse m .noSuch s
    else answer m .ok (snapshot (s.carrier slot)) (s.modifyCarrier slot (fun c => { c with condition := .none }))

/-! ### The commands -/

/-- CARRIER_ADMIT (R32, R33). -/
def execCarrierAdmit (m : Mgmt) (s : State) : Host.Outcome State Fault Refusal :=
  .next (takeFrame .d (mgmtFrame m codeCarrierAdmit s.partStation) (handleCarrierAdmit m) s)

/-- CARRIER_RETIRE (R40). -/
def execCarrierRetire (m : Mgmt) (s : State) : Host.Outcome State Fault Refusal :=
  .next (takeFrame .d (mgmtFrame m codeCarrierRetire s.partStation) (handleCarrierRetire m) s)

/-- CARRIER_CLEAR (R38, R39). -/
def execCarrierClear (m : Mgmt) (s : State) : Host.Outcome State Fault Refusal :=
  .next (takeFrame .d (mgmtFrame m codeCarrierClear s.partStation) (handleCarrierClear m) s)

/-- CARRIER_RECALL (R119). -/
def execCarrierRecall (m : Mgmt) (s : State) : Host.Outcome State Fault Refusal :=
  .next (takeFrame .d (mgmtFrame m codeCarrierRecall s.partStation) (handleCarrierRecall m) s)

/-- CARRIER_QUERY (R41). -/
def execCarrierQuery (m : Mgmt) (s : State) : Host.Outcome State Fault Refusal :=
  .next (takeFrame .d (mgmtFrame m codeCarrierQuery s.partStation) (handleCarrierQuery m) s)

end Sys2Proof.Machine
end

