-- ==== Sys2Proof/Machine/Loss.lean ====
section
/-! DEFINITION. Entry to LOST and QUARANTINED (R34, R35), and entry to HALTED (R141 to R143). -/

namespace Sys2Proof.Machine

/-- Every hold of a carrier becomes FROZEN in place (R34). -/
def freezeHolds (slot : Nat) (s : State) : State :=
  { s with holds := s.holds.map (fun e =>
      (e.1, { e.2 with holders := e.2.holders.map (fun h => if h.slot = slot then { h with state := .frozen } else h) })) }

/-- Entry to LOST or QUARANTINED (R34): wait removed, cutback cancelled, holds frozen, counters reset, cause and
condition set, state changed, and the notice of R35 sent. -/
def leaveService (slot : Nat) (st : CarrierState) (cause : LostCause) (cond : Condition) (code : Byte)
    (s : State) : State :=
  noticeOut code slot cause
    ((freezeHolds slot (endWait slot s)).modifyCarrier slot (fun c =>
      { c with
        cutback := none
        silence := 0
        probeSent := false
        holdIdle := 0
        badRun := 0
        releases := 0
        passedOver := 0
        effectivePriority := c.params.priority
        lostCause := cause
        condition := cond
        state := st }))

/-- Entry to LOST (R35, R137). -/
def enterLost (slot : Nat) (s : State) : State := leaveService slot .lost .silent .silent 0x03 s

/-- Entry to QUARANTINED for an overrun (R35, R69). -/
def quarantineOverrun (slot : Nat) (s : State) : State := leaveService slot .quarantined .overrun .overrun 0x04 s

/-- Entry to QUARANTINED for a third bad report (R35, R66): the condition stays BAD_REPORT. -/
def quarantineBadReports (slot : Nat) (s : State) : State :=
  leaveService slot .quarantined .badReports .badReport 0x04 s

/-- The part becomes HALTED with a cause and NOTICE HALTED is sent (R141 to R143). -/
def haltPart (cause : HaltCause) (slot : Nat) (station : Station) (sec : Nat) (s : State) : State :=
  noticeHalted cause slot station sec { s with partState := .halted, haltCause := cause }

end Sys2Proof.Machine
end

