-- ==== Sys2Proof/Machine/PartCommands.lean ====
section
/-! DEFINITION. The part commands: queries (R167 to R169), parameters (R165, R166), START, HALT (R140, R141) and the
resets (R172 to R174). -/

namespace Sys2Proof.Machine

/-! ### Queries -/

/-- The hold direction byte of a section snapshot, 0 for none (R158). -/
def directionByte : Option Direction → Byte
  | some d => d.code
  | none => 0

/-- The section snapshot of SECTION_QUERY (R158, R169). -/
def sectionSnapshot (s : State) (sec : Nat) : List Byte :=
  match lookup s.sections sec with
  | none => [0]
  | some e =>
    [1] ++ e.data.bytes ++
      [byte e.isOpen.toNat, directionByte (s.hold sec).direction,
        byte (if e.data.zone = 0 then 0 else s.occupied e.data.zone), byte (s.holders sec).length] ++
      ((s.holders sec).map (fun h => [byte h.slot, h.state.code])).flatten ++ [byte e.chain.length] ++
      (e.chain.map (fun r => bytes2 r.other ++ [r.condition.code])).flatten

/-- SECTION_QUERY (R169). -/
def handleSectionQuery (m : Mgmt) (s : State) : State :=
  if m.params.length ≠ 2 then refuse m .badValue s
  else if !sectionNumber (numAt2 m.params 0) then refuse m .badValue s
  else answer m .ok (sectionSnapshot s (numAt2 m.params 0)) s

/-- A wait entry in a PART_QUERY result (R168). -/
def WaitEntry.bytes (w : WaitEntry) : List Byte :=
  [byte w.slot, byte w.wantedIndex] ++ bytes2 w.wantedSection ++ [w.reason.code, byte (w.blocker.getD 0)]

/-- The data of the first PART_QUERY frame (R168). -/
def partData (s : State) : List Byte :=
  let first := s.waits.take Config.firstFrameWaits
  [1, byte (if s.waits.length ≤ Config.firstFrameWaits then 1 else 2), s.partState.code, s.haltCause.code] ++
    bytes2 s.cycle.toNat ++ halfBytes s.partStation ++ [byte s.rateStrap.toNat, byte s.params.periodSelect] ++
    bytes2 s.params.margin ++
    [byte s.params.lookahead, byte s.params.holdLimit, byte s.params.cutbackTimeout] ++
    halfBytes s.params.dispatchStation ++ bytes2 s.freeRecords.length ++
    [byte s.carriers.length, s.portD.flags.toByte, s.portC.flags.toByte, byte s.waits.length, byte first.length] ++
    (first.map WaitEntry.bytes).flatten

/-- The data of the second PART_QUERY frame (R168). -/
def partData2 (s : State) : List Byte :=
  let rest := s.waits.drop Config.firstFrameWaits
  [2, 2, byte rest.length] ++ (rest.map WaitEntry.bytes).flatten

/-- Every flag of both ports is cleared (R153). -/
def clearFlags (s : State) : State :=
  { s with portD := { s.portD with flags := .clear }, portC := { s.portC with flags := .clear } }

/-- PART_QUERY (R167): the snapshot, the release of the flags, and one or two RESULT frames. -/
def handlePartQuery (m : Mgmt) (s : State) : State :=
  if m.params.length ≠ 0 then refuse m .badValue s
  else
    let s1 := answer m .ok (partData s) (clearFlags s)
    if s.waits.length ≤ Config.firstFrameWaits then s1 else answer m .ok (partData2 s) s1

/-! ### Parameters -/

/-- A lookahead depth is below the ahead run of some admitted carrier (R93). -/
def lookaheadInUse (s : State) (v : Nat) : Bool := s.carriers.any (fun e => v < e.2.limit - e.2.head)

/-- The parameters with one of them stored. -/
def State.setParams (s : State) (p : PartParams) : State := { s with params := p }

/-- A hold limit is stored; 0 sets the hold-idle counter of every carrier to 0 at once (R115). -/
def setHoldLimit (v : Nat) (s : State) : State :=
  let s1 := s.setParams { s.params with holdLimit := v }
  if v = 0 then { s1 with carriers := s1.carriers.map (fun e => (e.1, { e.2 with holdIdle := 0 })) } else s1

/-- One parameter is checked and stored (R164 to R166). -/
def setParam (code : Byte) (value : Half) (s : State) : State × Status :=
  let v := value.toNat
  if code = 0x01 then
    if 7 < v then (s, .badValue) else (s.setParams { s.params with periodSelect := v }, .ok)
  else if code = 0x02 then
    if 1000 < v then (s, .badValue) else (s.setParams { s.params with margin := v }, .ok)
  else if code = 0x03 then
    if v < 1 || 8 < v then (s, .badValue)
    else if lookaheadInUse s v then (s, .inUse)
    else (s.setParams { s.params with lookahead := v }, .ok)
  else if code = 0x04 then
    if 255 < v then (s, .badValue) else (setHoldLimit v s, .ok)
  else if code = 0x05 then
    if v < 1 || 63 < v then (s, .badValue) else (s.setParams { s.params with cutbackTimeout := v }, .ok)
  else if code = 0x06 then
    if value = 0 || value = Config.broadcast || value = s.partStation then (s, .badValue)
    else if (s.slotOf value).isSome then (s, .inUse)
    else (s.setParams { s.params with dispatchStation := value }, .ok)
  else (s, .badValue)

/-- PARAMS_SET (R165). -/
def handleParamsSet (m : Mgmt) (s : State) : State :=
  if m.params.length ≠ 3 then refuse m .badValue s
  else
    let r := setParam (byteAt m.params 0) (halfAt m.params 1) s
    answer m r.2 [] r.1

/-! ### START and HALT -/

/-- What START does in each part state (R140). -/
def startPart (s : State) : State :=
  match s.partState with
  | .unconfigured =>
    { s with partState := .running, haltCause := .none, timerRunning := true, period := s.params.periodSelect }
  | .halted => { s with partState := .running, haltCause := .none }
  | .running => s

/-- START (R140). -/
def handleStart (m : Mgmt) (s : State) : State :=
  if m.params.length ≠ 0 then refuse m .badValue s else answer m .ok [] (startPart s)

/-- HALT (R141). -/
def handleHalt (m : Mgmt) (s : State) : State :=
  if m.params.length ≠ 0 then refuse m .badValue s
  else match s.partState with
    | .unconfigured => refuse m .wrongState s
    | .halted => answer m .ok [] s
    | .running => answer m .ok [] (haltPart .command 0 0 0 s)

/-! ### Resets -/

/-- RESET TRAFFIC's effects in their order (R173): waits, cutbacks, Hold Table and slots emptied, then HALTED with
cause RESET and its notice. -/
def resetTraffic (s : State) : State :=
  haltPart .reset 0 0 0 { s with waits := [], holds := [], occupancy := [], carriers := [] }

/-- A port after RESET FULL: both queues empty but for the frame on the line, no flag, hunting (R145, R174). -/
def Port.afterFullReset (p : Port) : Port := ⟨.hunting, [], p.outbound.take 1, .clear⟩

/-- RESET FULL (R174): power-on values throughout, but for the straps as read, the pins and the frame on each line. -/
def resetFull (s : State) : State :=
  { State.reset with
    pending := s.pending
    freeTick := s.freeTick
    pins := s.pins
    stationStrap := s.stationStrap
    rateStrap := s.rateStrap
    portD := s.portD.afterFullReset
    portC := s.portC.afterFullReset }

/-- RESET with its mode byte (R172). -/
def handleReset (m : Mgmt) (s : State) : State :=
  if m.params.length ≠ 1 then refuse m .badValue s
  else if byteAt m.params 0 = modeTraffic then
    if s.partState = .unconfigured then refuse m .wrongState s else answer m .ok [] (resetTraffic s)
  else if byteAt m.params 0 = modeFull then answer m .ok [] (resetFull s)
  else refuse m .badValue s

/-- A power-on or a release of the reset input (R160): the straps are read and everything takes its power-on value. -/
def powerUp (stationStraps : BitVec 4) (rateStraps : BitVec 2) (s : State) : State :=
  { State.reset with
    pending := s.pending
    freeTick := s.freeTick
    pins := ⟨stationStraps, rateStraps, false⟩
    stationStrap := stationStraps
    rateStrap := rateStraps }

/-! ### The commands -/

/-- SECTION_QUERY (R169). -/
def execSectionQuery (m : Mgmt) (s : State) : Host.Outcome State Fault Refusal :=
  .next (takeFrame .d (mgmtFrame m codeSectionQuery s.partStation) (handleSectionQuery m) s)

/-- PART_QUERY (R167, R168). -/
def execPartQuery (m : Mgmt) (s : State) : Host.Outcome State Fault Refusal :=
  .next (takeFrame .d (mgmtFrame m codePartQuery s.partStation) (handlePartQuery m) s)

/-- PARAMS_SET (R165, R166). -/
def execParamsSet (m : Mgmt) (s : State) : Host.Outcome State Fault Refusal :=
  .next (takeFrame .d (mgmtFrame m codeParamsSet s.partStation) (handleParamsSet m) s)

/-- START (R140). -/
def execStart (m : Mgmt) (s : State) : Host.Outcome State Fault Refusal :=
  .next (takeFrame .d (mgmtFrame m codeStart s.partStation) (handleStart m) s)

/-- HALT (R141). -/
def execHalt (m : Mgmt) (s : State) : Host.Outcome State Fault Refusal :=
  .next (takeFrame .d (mgmtFrame m codeHalt s.partStation) (handleHalt m) s)

/-- RESET_TRAFFIC: a RESET frame with mode 0x01 (R172, R173). -/
def execResetTraffic (r : ResetOrder) (s : State) : Host.Outcome State Fault Refusal :=
  let m := resetCommand r modeTraffic
  .next (takeFrame .d (mgmtFrame m codeReset s.partStation) (handleReset m) s)

/-- RESET_FULL: a RESET frame with mode 0x02 (R172, R174). -/
def execResetFull (r : ResetOrder) (s : State) : Host.Outcome State Fault Refusal :=
  let m := resetCommand r modeFull
  .next (takeFrame .d (mgmtFrame m codeReset s.partStation) (handleReset m) s)

/-- POWER_ON: power-on, or release of the reset input (R160). -/
def execPowerOn (stationStraps : BitVec 4) (rateStraps : BitVec 2) (s : State) : Host.Outcome State Fault Refusal :=
  .next (powerUp stationStraps rateStraps s)

/-- RESET_INPUT_ASSERT: from now on the part is inactive and sends nothing, until POWER_ON (R160, log entry 8). -/
def execResetInputAssert (s : State) : Host.Outcome State Fault Refusal :=
  .next { s with pins := { s.pins with resetHeld := true } }

end Sys2Proof.Machine
end

