-- ==== Sys2Proof/Machine/Requests.lean ====
section
/-! DEFINITION. Carrier frames: MOVE_REQ in its ten steps (R63 to R82), CUTBACK_ACK (R123) and REJOIN (R37), as the
classifier hands them over (R149). -/

namespace Sys2Proof.Machine

/-- Release of one section by trail trimming (R71): the oldest trail entry leaves the trail, its section is released
with its report, and the release counts towards NOTICE PROGRESS. -/
def trimOne (slot : Nat) (s : State) : State :=
  match (s.carrier slot).trail with
  | [] => s
  | e :: rest =>
    let s1 := release slot e.sec (some slot) (s.modifyCarrier slot (fun c => { c with trail := rest }))
    let c := s1.carrier slot
    if c.params.progress = 0 then s1
    else if c.releases + 1 < c.params.progress then s1.modifyCarrier slot (fun c => { c with releases := c.releases + 1 })
    else (noticeProgress slot s1).modifyCarrier slot (fun c => { c with releases := 0 })

/-- Trimming of a number of trail entries, oldest first (R71). -/
def trimMany (slot : Nat) : Nat → State → State
  | 0, s => s
  | n + 1, s => trimMany slot n (trimOne slot s)

/-- The trail is trimmed to the smallest of the reported count, 3 and its length (R71). -/
def trimTrail (slot count : Nat) (s : State) : State :=
  let len := (s.carrier slot).trail.length
  trimMany slot (len - min count (min Config.maxTrail len)) s

/-- The head advances to a reported index above it (R70). -/
def advanceHead (slot head : Nat) (s : State) : State :=
  s.modifyCarrier slot (fun c =>
    if c.head < head then
      { c with
        trail := c.trail ++ (c.route.drop c.head).take (head - c.head)
        head := head
        headSection := ((c.route[head]?).map (fun e => e.sec)).getD c.headSection
        holdIdle := 0 }
    else c)

/-- The reported remaining distance is written, clamped to the head section's length (R72). -/
def applyRemaining (slot remaining : Nat) (s : State) : State :=
  s.modifyCarrier slot (fun c => { c with remaining := min remaining (s.lengthOf c.headSection) })

/-- The head index fits the stored route, or is 0 where none is stored (R66). -/
def Carrier.fitsRoute (c : Carrier) (head : Nat) : Bool :=
  if c.routeNumber = 0 then head = 0 else head < c.route.length

/-- A bad report (R66): discarded, counted, and the third in a row quarantines the carrier. -/
def badReport (slot : Nat) (s : State) : State :=
  let s1 := s.modifyCarrier slot (fun c => { c with condition := .badReport, badRun := c.badRun + 1 })
  if 3 ≤ (s1.carrier slot).badRun then quarantineBadReports slot s1 else s1

/-- The overrun lies in another carrier's space (R69): the section of the reported entry is held by another carrier or
conflicts with one. -/
def overrunConflict (s : State) (slot sec : Nat) : Bool :=
  (s.holders sec).any (fun h => h.slot ≠ slot) || (conflictBlocker s slot (s.wide slot) sec).isSome

/-- An overrun (R69, R142): quarantine first, then the halt when another carrier's space is concerned. -/
def overrun (slot head : Nat) (s : State) : State :=
  let c := s.carrier slot
  let sec := ((c.route[head]?).map (fun e => e.sec)).getD 0
  let s1 := quarantineOverrun slot s
  if overrunConflict s slot sec then haltPart .overrunConflict slot c.station sec s1 else s1

/-- The sequence of a request is recorded (R64). -/
def recordSequence (slot : Nat) (q : Byte) (s : State) : State :=
  s.modifyCarrier slot (fun c => { c with lastSequence := some q })

/-- The answer to a report under another route number (R67): trail count applied, then a GRANT of speed 0 with reason
ROUTE_CHANGE. -/
def answerRouteChange (slot : Nat) (r : MoveReq) (s : State) : State :=
  let s1 := trimTrail slot r.trailCount.toNat s
  let c := s1.carrier slot
  sendGrant slot ⟨c.routeNumber, c.head, c.remaining, 0, .routeChange⟩ s1

/-- Step 9 in HALTED (R75). -/
def answerHalted (slot : Nat) (s : State) : State :=
  let c := s.carrier slot
  let distance := if c.routeNumber = 0 then c.remaining else available s c c.limit
  sendGrant slot ⟨c.routeNumber, c.limit, distance, 0, .halted⟩ s

/-- The speed-0 GRANT with reason ROUTE_END of a standing report (R68) and of a completed route (R74). -/
def answerStanding (slot : Nat) (s : State) : State :=
  sendGrant slot ⟨0, 0, (s.carrier slot).remaining, 0, .routeEnd⟩ s

/-- Step 10 for an ACTIVE carrier (R76 to R82): every new request is answered. -/
def answerGrant (slot : Nat) (s : State) : State :=
  let k := compute slot s
  sendGrant slot k.grant k.state

/-- Steps 9 and 10 (R75, R76). -/
def answerRequest (slot : Nat) (s : State) : State :=
  if s.partState = .halted then answerHalted slot s else answerGrant slot s

/-- A route completes (R74). -/
def completeRoute (slot : Nat) (s : State) : State :=
  let s1 := noticeRouteDone slot (s.carrier slot).routeNumber s
  answerStanding slot (s1.modifyCarrier slot (fun c =>
    { c with routeNumber := 0, route := [], head := 0, limit := 0, holdIdle := 0, state := .idle }))

/-- Steps 8 to 10 (R74 to R76): completion is at the last route index with requested speed 0. -/
def finishRequest (slot : Nat) (s : State) : State :=
  let c := s.carrier slot
  if c.state = .active && c.head + 1 = c.route.length && c.requestedSpeed = 0 then completeRoute slot s
  else answerRequest slot s

/-- Step 7 and what follows (R73): the CUTBACK again, or the implicit decline. -/
def cutbackStep (slot : Nat) (s : State) : State :=
  match (s.carrier slot).cutback with
  | none => finishRequest slot s
  | some k =>
    if k.target < (s.carrier slot).head then finishRequest slot (declineCutback slot k s)
    else sendAnswer slot k.frame s

/-- Step 6 (R70 to R72). -/
def updatePosition (slot : Nat) (r : MoveReq) (s : State) : State :=
  applyRemaining slot r.remaining.toNat (trimTrail slot r.trailCount.toNat (advanceHead slot r.headIndex.toNat s))

/-- A standing report (R68): trail count and remaining applied, then step 9 or a ROUTE_END GRANT. -/
def standingReport (slot : Nat) (r : MoveReq) (s : State) : State :=
  let s1 := applyRemaining slot r.remaining.toNat (trimTrail slot r.trailCount.toNat s)
  if s1.partState = .halted then answerHalted slot s1 else answerStanding slot s1

/-- A good report (R66): run of bad reports 0, requested speed written, a speed above 4095 taken as 4095 (R26, R63). -/
def noteGoodReport (slot : Nat) (r : MoveReq) (s : State) : State :=
  s.modifyCarrier slot (fun c => { c with badRun := 0, requestedSpeed := min r.speed.toNat Config.maxRequest })

/-- Steps 3 to 10 of a new request (R66 to R82). -/
def newRequest (slot : Nat) (r : MoveReq) (s : State) : State :=
  let c := s.carrier slot
  if r.routeNumber ≠ c.routeNumber then
    answerRouteChange slot r (recordSequence slot r.sequence (noteGoodReport slot r s))
  else if !c.fitsRoute r.headIndex.toNat then badReport slot s
  else if c.routeNumber = 0 then
    standingReport slot r (recordSequence slot r.sequence (noteGoodReport slot r s))
  else if c.limit < r.headIndex.toNat then overrun slot r.headIndex.toNat (noteGoodReport slot r s)
  else cutbackStep slot (updatePosition slot r (recordSequence slot r.sequence (noteGoodReport slot r s)))

/-- A duplicate is answered with the last answer, unchanged, or discarded where there is none (R65). -/
def resend (slot : Nat) (s : State) : State :=
  match (s.carrier slot).lastAnswer with
  | some f => offerOwn .c f s
  | none => s

/-- How a request's sequence stands to the last one (R64). -/
inductive SequenceVerdict where
  | fresh
  | duplicate
  | stale
  deriving DecidableEq, Repr

/-- The difference mod 256 decides; before any request has been recorded every one is new (R64). -/
def sequenceVerdict (last : Option Byte) (q : Byte) : SequenceVerdict :=
  match last with
  | none => .fresh
  | some l =>
    if (q - l).toNat = 0 then .duplicate
    else if (q - l).toNat ≤ 127 then .fresh
    else .stale

/-- The Passage Engine takes a MOVE_REQ for a slot (R63, R64, R36). -/
def takeMoveReq (slot : Nat) (r : MoveReq) (s : State) : State :=
  if (s.carrier slot).believed then
    let s1 := refresh slot s
    match sequenceVerdict (s.carrier slot).lastSequence r.sequence with
    | .fresh => newRequest slot r s1
    | .duplicate => resend slot s1
    | .stale => s1
  else s

/-- The Carrier Context Table takes a REJOIN for a slot (R37). -/
def takeRejoin (slot : Nat) (r : Rejoin) (s : State) : State :=
  let c := s.carrier slot
  match c.state with
  | .lost => noticeRejoin slot c.lostCause .lost r.believed (s.modifyCarrier slot (fun c => { c with state := .rejoining }))
  | .quarantined =>
    noticeRejoin slot c.lostCause .quarantined r.believed (s.modifyCarrier slot (fun c => { c with state := .rejoining }))
  | .rejoining => s
  | .vacant => s
  | .idle => noticeRejoin slot .none .idle r.believed (refresh slot s)
  | .active => noticeRejoin slot .none .active r.believed (refresh slot s)

/-- A carrier frame goes to the slot of its source station; from a station no slot holds it is discarded and the flag
UNKNOWN_STATION of Port C is set (R22, R149). -/
def forCarrier (source : Station) (handle : Nat → State → State) (s : State) : State :=
  match s.slotOf source with
  | some slot => handle slot s
  | none => s.raise .c .unknownStation

/-- A MOVE_REQ addressed to the part station, taken from Port C (R149). -/
def handleMoveReq (r : MoveReq) (s : State) : State := forCarrier r.source (fun slot => takeMoveReq slot r) s

/-- A CUTBACK_ACK addressed to the part station, taken from Port C (R149). -/
def handleAck (a : CutbackAck) (s : State) : State := forCarrier a.source (fun slot => takeAck slot a) s

/-- A REJOIN addressed to the part station, taken from Port C (R149). -/
def handleRejoin (r : Rejoin) (s : State) : State := forCarrier r.source (fun slot => takeRejoin slot r) s

/-! ### The commands -/

/-- MOVE_REQ (R63). -/
def execMoveReq (r : MoveReq) (s : State) : Host.Outcome State Fault Refusal :=
  .next (takeFrame .c (moveReqFrame r s.partStation) (handleMoveReq r) s)

/-- CUTBACK_ACK (R123). -/
def execCutbackAck (a : CutbackAck) (s : State) : Host.Outcome State Fault Refusal :=
  .next (takeFrame .c (cutbackAckFrame a s.partStation) (handleAck a) s)

/-- REJOIN (R37). -/
def execRejoin (r : Rejoin) (s : State) : Host.Outcome State Fault Refusal :=
  .next (takeFrame .c (rejoinFrame r s.partStation) (handleRejoin r) s)

end Sys2Proof.Machine
end

