-- ==== Sys2Proof/Machine/Routes.lean ====
section
/-! DEFINITION. The Route Inspector (R44 to R54). -/

namespace Sys2Proof.Machine

/-- Check 3 of R45 (R47, R157): the entries of a well-formed body. -/
def orderEntries (o : RouteOrder) : Option (List RouteEntry) :=
  let n := numAt o.body 1
  if numAt o.body 0 = 0 || n = 0 || Config.maxRoute < n || o.body.length ≠ 2 + 3 * n then none
  else entriesAt o.body 2 n

/-- Two entries join: the exit node of the first is the entry node of the second (R2, R48). -/
def State.joins (s : State) (a b : RouteEntry) : Bool :=
  match lookup s.sections a.sec, lookup s.sections b.sec with
  | some x, some y => x.data.exitNode a.direction = y.data.entryNode b.direction
  | _, _ => false

/-- Check 6 (R48): the index of the first entry that does not join its predecessor, counted from `i`. -/
def firstBreak (s : State) : Nat → List RouteEntry → Option Nat
  | i, a :: b :: rest => if s.joins a b then firstBreak s (i + 1) (b :: rest) else some (i + 1)
  | _, [_] => none
  | _, [] => none

/-- Check 7 (R49): the index of the first entry whose section appeared at a lower index, counted from `i`. -/
def firstRepeat : Nat → List Nat → List RouteEntry → Option Nat
  | _, _, [] => none
  | i, seen, e :: rest => if seen.contains e.sec then some i else firstRepeat (i + 1) (e.sec :: seen) rest

/-- Checks 4 to 7, against the map (R48, R49): reason and entry index. -/
def checkMap (s : State) (es : List RouteEntry) : Option (RefusalReason × Nat) :=
  match es.findIdx? (fun e => !s.loaded e.sec) with
  | some i => some (.noSection, i)
  | none =>
    match es.findIdx? (fun e => !s.permits e) with
    | some i => some (.badDirection, i)
    | none =>
      match firstBreak s 0 es with
      | some i => some (.discontinuous, i)
      | none => (firstRepeat 0 [] es).map (fun i => (.duplicate, i))

/-- Checks 8 to 10, against the carrier's position and holds (R49 to R51). -/
def checkHolds (s : State) (slot : Nat) (es : List RouteEntry) : Option (RefusalReason × Nat) :=
  let c := s.carrier slot
  match es.head? with
  | none => some (.badFormat, 0)
  | some e =>
    if e.sec ≠ c.headSection then some (.notAtStart, 0)
    else if c.limit ≠ c.head || c.cutback.isSome then some (.aheadHeld, 0)
    else if (s.hold c.headSection).direction ≠ some e.direction && !s.soleHolder slot c.headSection then
      some (.directionHeld, 0)
    else none

/-- The ten checks in order (R45): a refusal with its entry index, or the carrier's slot and the route. -/
def inspect (o : RouteOrder) (s : State) : (RefusalReason × Nat) ⊕ (Nat × List RouteEntry) :=
  if s.partState = .unconfigured then .inl (.wrongState, 0)
  else match s.slotOf o.destination with
    | none => .inl (.notAdmitted, 0)
    | some slot =>
      if !(s.carrier slot).believed then .inl (.notAdmitted, 0)
      else match orderEntries o with
        | none => .inl (.badFormat, 0)
        | some es =>
          match checkMap s es with
          | some r => .inl r
          | none =>
            match checkHolds s slot es with
            | some r => .inl r
            | none => .inr (slot, es)

/-- An accepted route is stored (R52, steps 1 to 5). -/
def storeRoute (slot : Nat) (number : Byte) (es : List RouteEntry) (s : State) : State :=
  let s1 := endWait slot s
  let s2 :=
    match es.head? with
    | some e => setDirection (s1.carrier slot).headSection e.direction s1
    | none => s1
  s2.modifyCarrier slot (fun c =>
    { c with routeNumber := number, route := es, head := 0, limit := 0, holdIdle := 0, state := .active })

/-- A ROUTE frame taken from Port D (R44, R45): stored and forwarded unchanged (R52, R53), or dropped with NOTICE
ROUTE_REFUSED (R54). -/
def handleRoute (o : RouteOrder) (s : State) : State :=
  match inspect o s with
  | .inl r => noticeRouteRefused o r.1 r.2 s
  | .inr (slot, es) => offerForward .c (routeFrame o) (storeRoute slot (byteAt o.body 0) es s)

/-- ROUTE (R45). -/
def execRoute (o : RouteOrder) (s : State) : Host.Outcome State Fault Refusal :=
  .next (takeFrame .d (routeFrame o) (handleRoute o) s)

end Sys2Proof.Machine
end

