-- ==== Sys2Proof/Machine/Classifier.lean ====
section
/-! DEFINITION. Bytes to frames (R146 to R148), and the Frame Classifier with the Management Agent's first check
(R149, R150, R161). -/

namespace Sys2Proof.Machine

/-! ### Receiving (R146) -/

/-- A port's receive state is set. -/
def State.setRx (s : State) (p : PortId) (r : RxState) : State := s.setPort p { s.port p with rx := r }

/-- The last byte of a frame has come: the check is compared, and a checked frame is offered to the inbound queue
(R146 to R148). -/
def finishFrame (p : PortId) (taken : List Byte) (s : State) : State :=
  let payload := taken.take (taken.length - 2)
  if crc payload = halfAt taken (taken.length - 2) then offerInbound p (Frame.ofPayload payload) s
  else s.raise p .check

/-- One byte arrives on a port (R146). -/
def receiveByte (p : PortId) (b : Byte) (s : State) : State :=
  match (s.port p).rx with
  | .hunting => if b = Config.syncByte then s.setRx p .lengthNext else s
  | .lengthNext =>
    if b.toNat < 6 || 246 < b.toNat then (s.raise p .length).setRx p .hunting
    else s.setRx p (.taking (b.toNat + 2) [])
  | .taking left taken =>
    if left ≤ 1 then finishFrame p (taken ++ [b]) (s.setRx p .hunting)
    else s.setRx p (.taking (left - 1) (taken ++ [b]))

/-- Bytes arrive one after another. -/
def receiveBytes (p : PortId) (bs : List Byte) (s : State) : State := bs.foldl (fun s b => receiveByte p b s) s

/-- The front outbound entry has left the line and its place is free (R152). -/
def endTransmission (p : PortId) (s : State) : State :=
  s.setPort p { s.port p with outbound := (s.port p).outbound.tail }

/-! ### Classification -/

/-- The Management Agent takes a command by its code; an unknown code is answered with BAD_COMMAND (R158, R161). -/
def handleMgmt (code : Byte) (m : Mgmt) (s : State) : State :=
  if code = codeSectionLoad then handleSectionLoad m s
  else if code = codeZoneLoad then handleZoneLoad m s
  else if code = codeSectionOpen then handleSectionOpen m s
  else if code = codeSectionClose then handleSectionClose m s
  else if code = codeConflictAdd then handleConflictAdd m s
  else if code = codeConflictRemove then handleConflictRemove m s
  else if code = codeZoneOpen then handleZoneOpen m s
  else if code = codeZoneClose then handleZoneClose m s
  else if code = codeCarrierAdmit then handleCarrierAdmit m s
  else if code = codeCarrierRetire then handleCarrierRetire m s
  else if code = codeCarrierClear then handleCarrierClear m s
  else if code = codeCarrierRecall then handleCarrierRecall m s
  else if code = codeCarrierQuery then handleCarrierQuery m s
  else if code = codeSectionQuery then handleSectionQuery m s
  else if code = codePartQuery then handlePartQuery m s
  else if code = codeParamsSet then handleParamsSet m s
  else if code = codeStart then handleStart m s
  else if code = codeHalt then handleHalt m s
  else if code = codeReset then handleReset m s
  else refuse m .badCommand s

/-- Kinds a carrier sends (R155). -/
def carrierKind (k : Byte) : Bool := k = kindMoveReq ∨ k = kindCutbackAck ∨ k = kindRejoin

/-- Kinds the part sends (R155). -/
def partKind (k : Byte) : Bool :=
  k = kindGrant ∨ k = kindCutback ∨ k = kindProbe ∨ k = kindBeacon ∨ k = kindResult ∨ k = kindNotice

/-- The body length that a carrier frame's layout gives (R156). -/
def carrierBodyLength (k : Byte) : Nat := if k = kindMoveReq then 7 else 2

/-- A carrier frame of the right length, addressed to the part station, by its kind (R149, test 3). -/
def handleCarrierFrame (f : Frame) (s : State) : State :=
  if f.kind = kindMoveReq then handleMoveReq (moveReqOf f) s
  else if f.kind = kindCutbackAck then handleAck (cutbackAckOf f) s
  else handleRejoin (rejoinOf f) s

/-- A frame taken from Port C, by the first test of R149 that it meets. -/
def classifyC (f : Frame) (s : State) : State :=
  if carrierKind f.kind && f.destination = s.partStation then
    if f.body.length ≠ carrierBodyLength f.kind then s.raise .c .length else handleCarrierFrame f s
  else if partKind f.kind || f.kind = kindRoute || f.kind = kindMgmt then s.raise .c .misplaced
  else offerForward .d f s

/-- A frame taken from Port D, by the first test of R150 that it meets. -/
def classifyD (f : Frame) (s : State) : State :=
  if f.kind = kindMgmt && f.destination = s.partStation then
    if f.body.length < 2 then s.raise .d .length else handleMgmt (byteAt f.body 0) (mgmtOf f) s
  else if f.kind = kindRoute then handleRoute (routeOrderOf f) s
  else if carrierKind f.kind || partKind f.kind then s.raise .d .misplaced
  else if f.destination = s.partStation then s
  else offerForward .c f s

/-- The classifier takes the front frame of a port's inbound queue (R148); an empty queue has none to take. -/
def takeFront (p : PortId) (classify : Frame → State → State) (s : State) : State :=
  match (s.port p).inbound with
  | [] => s
  | f :: _ => classify f (dropFront p s)

/-! ### The commands -/

/-- FRAME_RECEIVE: bytes arrive on a port (R146, R148; log entry 21). -/
def execFrameReceive (p : PortId) (bytes : List Byte) (s : State) : Host.Outcome State Fault Refusal :=
  .next (whileActive (receiveBytes p bytes) s)

/-- SYNC_BYTE: one byte arrives on a port (R146; log entry 21). -/
def execSyncByte (p : PortId) (b : Byte) (s : State) : Host.Outcome State Fault Refusal :=
  .next (whileActive (receiveByte p b) s)

/-- PORT_C_CLASSIFY (R149; log entry 3). -/
def execPortCClassify (s : State) : Host.Outcome State Fault Refusal :=
  .next (whileActive (takeFront .c classifyC) s)

/-- PORT_D_CLASSIFY (R150; log entry 3). -/
def execPortDClassify (s : State) : Host.Outcome State Fault Refusal :=
  .next (whileActive (takeFront .d classifyD) s)

/-- FRAME_TRANSMIT_END (R152). -/
def execFrameTransmitEnd (p : PortId) (s : State) : Host.Outcome State Fault Refusal :=
  .next (whileActive (endTransmission p) s)

end Sys2Proof.Machine
end

