-- ==== Sys2Proof/Machine/Cycle.lean ====
section
/-! DEFINITION. The cycle event and its parts (R116, R117, R127, R133 to R137). -/

namespace Sys2Proof.Machine

/-- The BEACON of the present cycle (R133, R134). -/
def beaconFrame (s : State) : Frame :=
  ⟨Config.broadcast, s.partStation, kindBeacon, 0, bytes2 s.cycle.toNat ++ [s.partState.code, s.haltCause.code]⟩

/-- The cycle number advances mod 4096, the next period takes the select in force, and the BEACON is offered (R132,
R133). -/
def beatCycle (s : State) : State :=
  let s1 := { s with cycle := s.cycle + 1, period := s.params.periodSelect, freeTick := s.freeTick + 1 }
  offerOwn .c (beaconFrame s1) s1

/-- A change of every listed slot's context or holds, in the order of the list. -/
def eachSlot (f : Nat → State → State) (slots : List Nat) (s : State) : State := slots.foldl (fun s n => f n s) s

/-! ### Supervision (R135 to R137) -/

/-- The silence counter of an IDLE or ACTIVE carrier advances (R135). -/
def countSilence (slot : Nat) (s : State) : State :=
  if (s.carrier slot).believed then s.modifyCarrier slot (fun c => { c with silence := c.silence + 1 }) else s

/-- The counter stands at the probe point and no PROBE has been sent in this run of silence (R136). -/
def Carrier.probeDue (c : Carrier) : Bool :=
  c.believed && c.silence = c.silenceLimit / 2 && 4 ≤ c.silenceLimit && !c.probeSent

/-- The PROBE of a carrier (R136, R155, R156). -/
def probeFrame (s : State) (c : Carrier) : Frame :=
  ⟨c.station, s.partStation, kindProbe, 0, bytes2 s.cycle.toNat ++ [byte (c.silenceLimit - c.silence)]⟩

/-- A PROBE is sent where it is due, once for a run of silence (R136). -/
def sendProbe (slot : Nat) (s : State) : State :=
  if (s.carrier slot).probeDue then
    offerOwn .c (probeFrame s (s.carrier slot)) (s.modifyCarrier slot (fun c => { c with probeSent := true }))
  else s

/-- The counter stands at the supervision limit (R137). -/
def Carrier.lossDue (c : Carrier) : Bool := c.believed && c.silence = c.silenceLimit

/-- A carrier whose counter has reached its limit is lost (R137). -/
def loseCarrier (slot : Nat) (s : State) : State := if (s.carrier slot).lossDue then enterLost slot s else s

/-! ### Cutback timeouts (R127) -/

/-- The timeout counter of a cutback in flight is decremented (R127). -/
def countTimeout (slot : Nat) (s : State) : State :=
  s.modifyCarrier slot (fun c => { c with cutback := c.cutback.map (fun k => { k with timeout := k.timeout - 1 }) })

/-- A cutback whose counter has reached 0 ends by timeout (R127). -/
def endTimedOut (slot : Nat) (s : State) : State :=
  match (s.carrier slot).cutback with
  | some k => if k.timeout = 0 then timeOutCutback slot k s else s
  | none => s

/-! ### The hold limit (R116, R117) -/

/-- The wanted sections of the entries that name a carrier as blocker. -/
def wantedFrom (waits : List WaitEntry) (slot : Nat) : List Nat :=
  (waits.filter (fun w => w.blocker = some slot)).map (fun w => w.wantedSection)

/-- Some entry names the carrier as blocker and wants one of its ahead sections (R116). -/
def aheadWanted (waits : List WaitEntry) (slot : Nat) (c : Carrier) : Bool :=
  (wantedFrom waits slot).any (fun sec => c.ahead.any (fun e => e.sec = sec))

/-- The withdrawal down to a target would free a section that a waiter wants (R117). -/
def targetFrees (waits : List WaitEntry) (slot target : Nat) (c : Carrier) : Bool :=
  (wantedFrom waits slot).any (fun sec =>
    match c.indexOf sec with
    | some i => target < i
    | none => false)

/-- The hold limit has expired for a carrier (R117): a cutback to the computed target, where that target frees a wanted
section and lies below the limit; otherwise the counter becomes 0. -/
def expireHoldLimit (waits : List WaitEntry) (slot : Nat) (s : State) : State :=
  let c := s.carrier slot
  let target := holdLimitTarget s c
  if targetFrees waits slot target c && target < c.limit then trigger slot target s
  else s.modifyCarrier slot (fun c => { c with holdIdle := 0 })

/-- The counter has reached the hold limit of an ACTIVE carrier with no cutback in flight (R116, R117). -/
def Carrier.holdLimitDue (c : Carrier) (limit : Nat) : Bool :=
  c.state = .active && c.cutback.isNone && limit ≠ 0 && limit ≤ c.holdIdle

/-- The hold-idle counter of an ACTIVE carrier with no cutback in flight: incremented while a waiter wants one of its
ahead sections, else 0 (R116), and the expiry when it reaches the hold limit (R117). -/
def countHoldIdle (waits : List WaitEntry) (slot : Nat) (s : State) : State :=
  let c := s.carrier slot
  if c.state = .active && c.cutback.isNone then
    if aheadWanted waits slot c then
      let s1 := s.modifyCarrier slot (fun c => { c with holdIdle := c.holdIdle + 1 })
      if (s1.carrier slot).holdLimitDue s1.params.holdLimit then expireHoldLimit waits slot s1 else s1
    else s.modifyCarrier slot (fun c => { c with holdIdle := 0 })
  else s

/-! ### The whole event -/

/-- The slots whose counter stands at the supervision limit and whose loss is taken at this place (log entry 5). -/
def lossesAt (place : Nat → Config.LossTime) (t : Config.LossTime) (s : State) : List Nat :=
  s.slots.filter (fun n => (s.carrier n).lossDue && place n = t)

/-- The wait list as the hold-idle test reads it: without the entries of carriers lost at this event (R116). -/
def waitsForHoldIdle (s : State) (late : List Nat) : List WaitEntry :=
  s.waits.filter (fun w => !late.contains w.slot)

/-- The slots with no cutback in flight as the event begins: only their hold-idle counters are touched, since a cutback
that times out at this event lets the counter start from 0 at the next one (R116, R125; log entry 26). -/
def holdIdleSlots (s : State) : List Nat := s.slots.filter (fun n => (s.carrier n).cutback.isNone)

/-- Hold-idle counters of the given slots, in RUNNING with a hold limit other than 0 (R116). -/
def holdIdlePhase (slots late : List Nat) (s : State) : State :=
  if s.partState = .running && s.params.holdLimit ≠ 0 then
    eachSlot (countHoldIdle (waitsForHoldIdle s late)) slots s
  else s

/-- One cycle event (R133 to R137, R127, R116): beat and BEACON, silence counters, probes, losses and cutback timeouts
in the order `place` gives, then the hold-idle counters. Carriers are taken in ascending slot order (log entry 6). -/
def runCycle (place : Nat → Config.LossTime) (s : State) : State :=
  let s1 := beatCycle s
  let s2 := eachSlot countSilence s1.slots s1
  let s3 := eachSlot sendProbe s2.slots s2
  let early := lossesAt place .beforeTimeouts s3
  let middle := lossesAt place .afterTimeouts s3
  let late := lossesAt place .afterHoldLimits s3
  let s4 := eachSlot loseCarrier early s3
  let s5 := eachSlot countTimeout s4.slots s4
  let s6 := eachSlot endTimedOut s5.slots s5
  let s7 := eachSlot loseCarrier middle s6
  let s8 := holdIdlePhase (holdIdleSlots s3) late s7
  eachSlot loseCarrier late s8

/-- A cycle event exists only while the Cycle Timer runs (R131, R144). -/
def cycleEvent (place : Nat → Config.LossTime) (s : State) : State := if s.timerRunning then runCycle place s else s

/-! ### The commands (log entry 4) -/

/-- CYCLE_EVENT (R133), with the free order of log entry 5. -/
def execCycleEvent (s : State) : Host.Outcome State Fault Refusal :=
  .next (whileActive (cycleEvent (Config.lossTime s.freeTick)) s)

/-- PROBE for one slot (R136). -/
def execProbe (slot : Nat) (s : State) : Host.Outcome State Fault Refusal :=
  .next (whileActive (sendProbe slot) s)

/-- SILENCE_LIMIT for one slot (R137). -/
def execSilenceLimit (slot : Nat) (s : State) : Host.Outcome State Fault Refusal :=
  .next (whileActive (loseCarrier slot) s)

/-- The hold-limit expiry of one slot where its counter stands at the limit in a RUNNING part (R116, R117). -/
def holdLimitEvent (slot : Nat) (s : State) : State :=
  if s.partState = .running && (s.carrier slot).holdLimitDue s.params.holdLimit then expireHoldLimit s.waits slot s else s

/-- HOLD_LIMIT_EXPIRY for one slot (R117). -/
def execHoldLimitExpiry (slot : Nat) (s : State) : Host.Outcome State Fault Refusal :=
  .next (whileActive (holdLimitEvent slot) s)

/-- CUTBACK_TIMEOUT for one slot (R127). -/
def execCutbackTimeout (slot : Nat) (s : State) : Host.Outcome State Fault Refusal :=
  .next (whileActive (endTimedOut slot) s)

end Sys2Proof.Machine
end

