-- ==== Sys2Proof/Machine/Dispatch.lean ====
section
/-! DEFINITION. One arm per command: each is one direct call of its meaning. -/

namespace Sys2Proof.Machine

def exec (i : Instr) (s : State) : Host.Outcome State Fault Refusal :=
  match i with
  | .powerOn a b => Sys2Proof.Machine.execPowerOn a b s
  | .resetInputAssert => Sys2Proof.Machine.execResetInputAssert s
  | .frameReceive p bytes => Sys2Proof.Machine.execFrameReceive p bytes s
  | .portCClassify => Sys2Proof.Machine.execPortCClassify s
  | .portDClassify => Sys2Proof.Machine.execPortDClassify s
  | .frameTransmitEnd p => Sys2Proof.Machine.execFrameTransmitEnd p s
  | .moveReq r => Sys2Proof.Machine.execMoveReq r s
  | .cutbackAck a => Sys2Proof.Machine.execCutbackAck a s
  | .rejoin r => Sys2Proof.Machine.execRejoin r s
  | .route o => Sys2Proof.Machine.execRoute o s
  | .sectionLoad m => Sys2Proof.Machine.execSectionLoad m s
  | .zoneLoad m => Sys2Proof.Machine.execZoneLoad m s
  | .sectionOpen m => Sys2Proof.Machine.execSectionOpen m s
  | .sectionClose m => Sys2Proof.Machine.execSectionClose m s
  | .zoneOpen m => Sys2Proof.Machine.execZoneOpen m s
  | .zoneClose m => Sys2Proof.Machine.execZoneClose m s
  | .conflictAdd m => Sys2Proof.Machine.execConflictAdd m s
  | .conflictRemove m => Sys2Proof.Machine.execConflictRemove m s
  | .carrierAdmit m => Sys2Proof.Machine.execCarrierAdmit m s
  | .carrierRetire m => Sys2Proof.Machine.execCarrierRetire m s
  | .carrierClear m => Sys2Proof.Machine.execCarrierClear m s
  | .carrierRecall m => Sys2Proof.Machine.execCarrierRecall m s
  | .carrierQuery m => Sys2Proof.Machine.execCarrierQuery m s
  | .sectionQuery m => Sys2Proof.Machine.execSectionQuery m s
  | .partQuery m => Sys2Proof.Machine.execPartQuery m s
  | .paramsSet m => Sys2Proof.Machine.execParamsSet m s
  | .start m => Sys2Proof.Machine.execStart m s
  | .halt m => Sys2Proof.Machine.execHalt m s
  | .resetTraffic r => Sys2Proof.Machine.execResetTraffic r s
  | .resetFull r => Sys2Proof.Machine.execResetFull r s
  | .cycleEvent => Sys2Proof.Machine.execCycleEvent s
  | .probe slot => Sys2Proof.Machine.execProbe slot s
  | .silenceLimit slot => Sys2Proof.Machine.execSilenceLimit slot s
  | .holdLimitExpiry slot => Sys2Proof.Machine.execHoldLimitExpiry slot s
  | .cutbackTimeout slot => Sys2Proof.Machine.execCutbackTimeout slot s
  | .syncByte p b => Sys2Proof.Machine.execSyncByte p b s

end Sys2Proof.Machine
end

