-- ==== Sys2Proof/Safety.lean ====
section
/-! DEFINITION. What a safe run keeps, in the terms the statements use: frames between two states, and the properties
of one state that every step keeps. -/

namespace Sys2Proof.Machine

/-! ### Frames: what two states have in common -/

/-- The Track Map is the same: sections, zones and the conflict pool (R1, R7, R14). -/
structure SameMap (s t : State) : Prop where
  sections : t.sections = s.sections
  zones : t.zones = s.zones
  freeRecords : t.freeRecords = s.freeRecords

/-- The traffic is the same: Hold Table, carrier contexts and wait list (R59, R21, R95). -/
structure SameTraffic (s t : State) : Prop where
  holds : t.holds = s.holds
  occupancy : t.occupancy = s.occupancy
  carriers : t.carriers = s.carriers
  waits : t.waits = s.waits

/-- Cycle Timer, parameters, part state and halt cause are the same (R131, R164, R139). -/
structure SameControl (s t : State) : Prop where
  cycle : t.cycle = s.cycle
  timerRunning : t.timerRunning = s.timerRunning
  period : t.period = s.period
  params : t.params = s.params
  partState : t.partState = s.partState
  haltCause : t.haltCause = s.haltCause

/-- Pins, straps as read, and the model's own fields are the same (R160). -/
structure SameBoard (s t : State) : Prop where
  pending : t.pending = s.pending
  pins : t.pins = s.pins
  stationStrap : t.stationStrap = s.stationStrap
  rateStrap : t.rateStrap = s.rateStrap
  freeTick : t.freeTick = s.freeTick

/-- Nothing but traffic and ports differs: what the Arbiter, the Passage Engine and the Cutback Unit may change. -/
structure TrafficOnly (s t : State) : Prop where
  map : SameMap s t
  control : SameControl s t
  board : SameBoard s t

/-- Nothing but the ports differs. -/
structure PortsOnly (s t : State) : Prop where
  map : SameMap s t
  traffic : SameTraffic s t
  control : SameControl s t
  board : SameBoard s t

/-- Carriers other than `slot` that wait for nothing keep their contexts and their holds (R103, R105). -/
def BystandersKept (slot : Nat) (s t : State) : Prop :=
  ∀ n, n ≠ slot → s.waitOf n = none →
    t.carrier n = s.carrier n ∧ ∀ sec, t.holdStateOf n sec = s.holdStateOf n sec

/-! ### When a command acts -/

/-- The part is active and the classifier takes this frame now (R148, R160, log entry 2). -/
def Ready (p : PortId) (f : Frame) (s : State) : Prop := s.pins.resetHeld = false ∧ canTake p f s = true

/-- A management command with this code is taken now. -/
def MgmtReady (code : Byte) (m : Mgmt) (s : State) : Prop := Ready .d (mgmtFrame m code s.partStation) s

/-- A frame's source is the station of this slot, and the part believes the carrier (R22, R31). -/
def FromCarrier (source : Station) (slot : Nat) (s : State) : Prop :=
  s.slotOf source = some slot ∧ (s.carrier slot).believed = true

/-- The sequence of a request is new: none is recorded yet, or it lies 1 to 127 after the recorded one (R64). -/
def NewSequence (c : Carrier) (q : Byte) : Prop :=
  ∀ l, c.lastSequence = some l → 1 ≤ (q - l).toNat ∧ (q - l).toNat ≤ 127

/-- The frame a frame command stands for, and the port it comes by (R149, R150, R155 to R158). -/
def frameOf (part : Station) : Instr → Option (PortId × Frame)
  | .moveReq r => some (.c, moveReqFrame r part)
  | .cutbackAck a => some (.c, cutbackAckFrame a part)
  | .rejoin r => some (.c, rejoinFrame r part)
  | .route o => some (.d, ⟨o.destination, o.source, 0x41, o.sequence, o.body⟩)
  | .sectionLoad m => some (.d, ⟨part, m.source, 0x51, m.sequence, [0x01, m.tag] ++ m.params⟩)
  | .zoneLoad m => some (.d, ⟨part, m.source, 0x51, m.sequence, [0x02, m.tag] ++ m.params⟩)
  | .sectionOpen m => some (.d, ⟨part, m.source, 0x51, m.sequence, [0x03, m.tag] ++ m.params⟩)
  | .sectionClose m => some (.d, ⟨part, m.source, 0x51, m.sequence, [0x04, m.tag] ++ m.params⟩)
  | .conflictAdd m => some (.d, ⟨part, m.source, 0x51, m.sequence, [0x05, m.tag] ++ m.params⟩)
  | .conflictRemove m => some (.d, ⟨part, m.source, 0x51, m.sequence, [0x06, m.tag] ++ m.params⟩)
  | .zoneOpen m => some (.d, ⟨part, m.source, 0x51, m.sequence, [0x07, m.tag] ++ m.params⟩)
  | .zoneClose m => some (.d, ⟨part, m.source, 0x51, m.sequence, [0x08, m.tag] ++ m.params⟩)
  | .carrierAdmit m => some (.d, ⟨part, m.source, 0x51, m.sequence, [0x09, m.tag] ++ m.params⟩)
  | .carrierRetire m => some (.d, ⟨part, m.source, 0x51, m.sequence, [0x0A, m.tag] ++ m.params⟩)
  | .carrierClear m => some (.d, ⟨part, m.source, 0x51, m.sequence, [0x0B, m.tag] ++ m.params⟩)
  | .carrierRecall m => some (.d, ⟨part, m.source, 0x51, m.sequence, [0x0C, m.tag] ++ m.params⟩)
  | .carrierQuery m => some (.d, ⟨part, m.source, 0x51, m.sequence, [0x0D, m.tag] ++ m.params⟩)
  | .sectionQuery m => some (.d, ⟨part, m.source, 0x51, m.sequence, [0x0E, m.tag] ++ m.params⟩)
  | .partQuery m => some (.d, ⟨part, m.source, 0x51, m.sequence, [0x0F, m.tag] ++ m.params⟩)
  | .paramsSet m => some (.d, ⟨part, m.source, 0x51, m.sequence, [0x10, m.tag] ++ m.params⟩)
  | .start m => some (.d, ⟨part, m.source, 0x51, m.sequence, [0x11, m.tag] ++ m.params⟩)
  | .halt m => some (.d, ⟨part, m.source, 0x51, m.sequence, [0x12, m.tag] ++ m.params⟩)
  | .resetTraffic r => some (.d, ⟨part, r.source, 0x51, r.sequence, [0x13, r.tag, 0x01]⟩)
  | .resetFull r => some (.d, ⟨part, r.source, 0x51, r.sequence, [0x13, r.tag, 0x02]⟩)
  | _ => none

/-- The classification of a port's front frame. -/
def classifyRow : PortId → Instr
  | .c => .portCClassify
  | .d => .portDClassify

/-! ### What a carrier is sent -/

/-- A GRANT as R79, R155 and R156 lay it out, with number, sequence and expiry read from the state that sent it. -/
def grantOf (v : State) (slot : Nat) (route : Byte) (limit distance speed : Nat) (reason : Byte) : Frame where
  destination := (v.carrier slot).station
  source := v.partStation
  kind := 0x31
  sequence := (v.carrier slot).lastSequence.getD 0
  body := [(v.carrier slot).grantNumber, route, byte limit] ++ bytes2 distance ++ bytes2 speed ++
    bytes2 (v.cycle + BitVec.ofNat 12 (v.carrier slot).params.lifetime).toNat ++ [reason]

/-- The last frame offered to Port C is this GRANT; it is the carrier's last answer, and its number advanced exactly
when limit or speed differ from those of the carrier's last GRANT before (R80, R82). -/
structure GrantSent (slot : Nat) (route : Byte) (limit distance speed : Nat) (reason : Byte) (s v : State) : Prop where
  answer : (v.carrier slot).lastAnswer = some (grantOf v slot route limit distance speed reason)
  kept : (v.carrier slot).keptGrant = some (limit, speed)
  number : (v.carrier slot).grantNumber =
    if (s.carrier slot).keptGrant = some (limit, speed) then (s.carrier slot).grantNumber
    else (s.carrier slot).grantNumber + 1
  offered : ∃ w, v = offerOwn .c (grantOf v slot route limit distance speed reason) w

/-- Of the traffic, only the context of `slot` differs. -/
structure OnlyContext (slot : Nat) (s v : State) : Prop where
  holds : v.holds = s.holds
  occupancy : v.occupancy = s.occupancy
  waits : v.waits = s.waits
  others : ∀ n, n ≠ slot → v.carrier n = s.carrier n
  rest : TrafficOnly s v

/-- A CUTBACK as R122, R155 and R156 lay it out. -/
def cutbackOf (s : State) (slot : Nat) (number : Byte) (target : Nat) : Frame where
  destination := (s.carrier slot).station
  source := s.partStation
  kind := 0x32
  sequence := (s.carrier slot).lastSequence.getD 0
  body := [number, (s.carrier slot).routeNumber, byte target] ++ bytes2 (available s (s.carrier slot) target)

/-- A cutback is begun or superseded (R120, R121): the holds above the target and up to `upto` are RECALLING in place, the
record stands with the next number and a timeout loaded afresh, the CUTBACK is the last answer and is offered to Port C,
and nothing else of the traffic differs. -/
structure CutbackSent (slot target upto : Nat) (s v : State) : Prop where
  context : v.carrier slot =
    { s.carrier slot with
      cutbackNumber := (s.carrier slot).cutbackNumber + 1
      cutback := some ⟨(s.carrier slot).cutbackNumber + 1, target, s.params.cutbackTimeout,
        cutbackOf s slot ((s.carrier slot).cutbackNumber + 1) target⟩
      lastAnswer := some (cutbackOf s slot ((s.carrier slot).cutbackNumber + 1) target)
      holdIdle := if (s.carrier slot).cutback.isSome then (s.carrier slot).holdIdle else 0 }
  states : ∀ n sec, v.holdStateOf n sec =
    if n = slot ∧ sec ∈ (s.carrier slot).sectionsBetween target upto ∧ s.holdsSection slot sec = true then some .recalling
    else s.holdStateOf n sec
  order : ∀ sec, (v.holders sec).map (fun h => h.slot) = (s.holders sec).map (fun h => h.slot)
  occupancy : v.occupancy = s.occupancy
  waits : v.waits = s.waits
  others : ∀ n, n ≠ slot → v.carrier n = s.carrier n
  portC : v.portC = (offerOwn .c (cutbackOf s slot ((s.carrier slot).cutbackNumber + 1) target) s).portC
  portD : v.portD = s.portD
  rest : TrafficOnly s v

/-- A NOTICE with this body, as R170 addresses it. -/
def noticeOf (s : State) (body : List Byte) : Frame := ⟨s.params.dispatchStation, s.partStation, 0x53, 0, body⟩

/-! ### Changes of the Hold Table, each reported before the next -/

/-- Changes made one after another, each with all it causes before the next begins (R102). -/
def InTurn {α : Type} (change : α → State → State → Prop) : List α → State → State → Prop
  | [], s, v => v = s
  | x :: rest, s, v => ∃ t, change x s t ∧ InTurn change rest t v

/-- A carrier's hold on a section changes state in place (R62), with this direction of the section; no hold, carrier,
wait or frame besides. -/
structure HoldTurned (slot sec : Nat) (st : HoldState) (d : Option Direction) (s u : State) : Prop where
  hold : u.hold sec = ⟨(s.holders sec).map (fun h => if h.slot = slot then { h with state := st } else h), d⟩
  otherHolds : ∀ k, k ≠ sec → u.hold k = s.hold k
  occupancy : u.occupancy = s.occupancy
  carriers : u.carriers = s.carriers
  waits : u.waits = s.waits
  portC : u.portC = s.portC
  portD : u.portD = s.portD
  rest : TrafficOnly s u

/-- A carrier becomes a holder (R60): its entry, ACTIVE, is the newest of the list, a free section takes the direction,
and the zone's occupancy is one more exactly where the carrier held none of its sections. -/
structure HoldEntered (slot : Nat) (e : RouteEntry) (s u : State) : Prop where
  hold : u.hold e.sec = ⟨s.holders e.sec ++ [⟨slot, .active⟩], some ((s.hold e.sec).direction.getD e.direction)⟩
  otherHolds : ∀ k, k ≠ e.sec → u.hold k = s.hold k
  enters : s.zoneOf e.sec ≠ 0 → (∀ k, s.zoneOf k = s.zoneOf e.sec → s.holdsSection slot k = false) →
    u.occupied (s.zoneOf e.sec) = s.occupied (s.zoneOf e.sec) + 1
  stays : (∃ k, s.zoneOf k = s.zoneOf e.sec ∧ s.holdsSection slot k = true) →
    u.occupied (s.zoneOf e.sec) = s.occupied (s.zoneOf e.sec)
  otherZones : ∀ z, (z = 0 ∨ z ≠ s.zoneOf e.sec) → u.occupied z = s.occupied z
  carriers : u.carriers = s.carriers
  waits : u.waits = s.waits
  portC : u.portC = s.portC
  portD : u.portD = s.portD
  rest : TrafficOnly s u

/-- A release (R61) before its report: the carrier's entry has left the holder list, the rest keep their order, an empty
list has no direction, and the zone's occupancy is one less exactly where the carrier holds none of its sections any
more. -/
structure HoldGone (slot sec : Nat) (s u : State) : Prop where
  holders : u.holders sec = (s.holders sec).filter (fun h => h.slot ≠ slot)
  direction : (u.hold sec).direction = if u.holders sec = [] then none else (s.hold sec).direction
  otherHolds : ∀ k, k ≠ sec → u.hold k = s.hold k
  leaves : s.zoneOf sec ≠ 0 → (∀ k, s.zoneOf k = s.zoneOf sec → u.holdsSection slot k = false) →
    u.occupied (s.zoneOf sec) = s.occupied (s.zoneOf sec) - 1
  stays : (∃ k, s.zoneOf k = s.zoneOf sec ∧ u.holdsSection slot k = true) →
    u.occupied (s.zoneOf sec) = s.occupied (s.zoneOf sec)
  otherZones : ∀ z, (z = 0 ∨ z ≠ s.zoneOf sec) → u.occupied z = s.occupied z
  carriers : u.carriers = s.carriers
  waits : u.waits = s.waits
  portC : u.portC = s.portC
  portD : u.portD = s.portD
  rest : TrafficOnly s u

/-- Step 1 of R125 for one section: a hold still RECALLING becomes ACTIVE in place and is reported to the Arbiter, any
other stands, and the carrier's own context, its cutback record with it, stands throughout. -/
def HoldRestored (slot sec : Nat) (s t : State) : Prop :=
  (s.holdStateOf slot sec = some .recalling →
    ∃ u, HoldTurned slot sec .active (s.hold sec).direction s u ∧ t = wake (.madeActive sec) none u) ∧
  (s.holdStateOf slot sec ≠ some .recalling → t = s) ∧
  t.carrier slot = s.carrier slot

/-- Step 1 of R39 for one named section: the hold becomes ACTIVE in place, the section takes the named direction where the
carrier is its sole holder, and the change is reported to the Arbiter. -/
def HoldKept (slot : Nat) (e : RouteEntry) (s t : State) : Prop :=
  ∃ u, HoldTurned slot e.sec .active
      (if (s.holders e.sec).all (fun h => h.slot = slot) then some e.direction else (s.hold e.sec).direction) s u ∧
    t = wake (.madeActive e.sec) none u

/-- A cutback ended without acceptance (R125): the recalled holds are ACTIVE again, each reported before the next while the
record still stands, then the record is none and the condition set, the limit stands, and the notice is the last frame
offered to Port D. -/
structure CutbackEnded (slot : Nat) (k : CutbackRecord) (cond : Condition) (code : Byte) (s v : State) : Prop where
  context : v.carrier slot = { s.carrier slot with cutback := none, holdIdle := 0, condition := cond }
  states : ∀ sec, v.holdStateOf slot sec =
    if sec ∈ (s.carrier slot).sectionsBetween k.target (s.carrier slot).limit ∧ s.holdStateOf slot sec = some .recalling
    then some .active else s.holdStateOf slot sec
  notice : ∃ w, InTurn (HoldRestored slot) ((s.carrier slot).sectionsBetween k.target (s.carrier slot).limit) s w ∧
    v = offerOwn .d (noticeOf s ([code, byte slot] ++ halfBytes (s.carrier slot).station ++
      [(s.carrier slot).routeNumber, k.number, byte k.target, byte (s.carrier slot).head, byte (s.carrier slot).limit]))
      (w.putCarrier slot { s.carrier slot with cutback := none, holdIdle := 0, condition := cond })
  bystanders : BystandersKept slot s v
  rest : TrafficOnly s v

/-- A carrier left service (R34, R35): its wait is gone, its cutback cancelled, its holds FROZEN in place, its counters
reset, cause, condition and state set and the notice offered to Port D; nothing else of the traffic differs. -/
structure LeftService (slot : Nat) (st : CarrierState) (cause : LostCause) (cond : Condition) (code : Byte)
    (s v : State) : Prop where
  context : v.carrier slot =
    { s.carrier slot with
      cutback := none
      silence := 0
      probeSent := false
      holdIdle := 0
      badRun := 0
      releases := 0
      passedOver := 0
      effectivePriority := (s.carrier slot).params.priority
      lostCause := cause
      condition := cond
      state := st }
  holds : ∀ sec, v.hold sec = { s.hold sec with
    holders := (s.holders sec).map (fun h => if h.slot = slot then { h with state := .frozen } else h) }
  occupancy : v.occupancy = s.occupancy
  waits : v.waits = s.waits.filter (fun w => w.slot ≠ slot)
  others : ∀ n, n ≠ slot → v.carrier n = s.carrier n
  portD : v.portD =
    (offerOwn .d (noticeOf s ([code, byte slot] ++ halfBytes (s.carrier slot).station ++ [cause.code])) s).portD
  portC : v.portC = s.portC
  rest : TrafficOnly s v

/-! ### The parts of a cycle event -/

/-- The beginning of a cycle event (R133, R135, R136): silence counters of believed carriers advance by one, probe sent may
be set, and no other field of a context, no hold, wait, notice or parameter differs. -/
structure SilenceCounted (s a : State) : Prop where
  contexts : ∀ n, a.carrier n =
    if (s.carrier n).believed then
      { s.carrier n with silence := (s.carrier n).silence + 1, probeSent := (a.carrier n).probeSent }
    else s.carrier n
  holds : a.holds = s.holds
  occupancy : a.occupancy = s.occupancy
  waits : a.waits = s.waits
  portD : a.portD = s.portD
  params : a.params = s.params
  partState : a.partState = s.partState
  stationStrap : a.stationStrap = s.stationStrap
  map : SameMap s a

/-- The timeout counter of every cutback in flight is one less (R127), and nothing else differs. -/
structure TimeoutsCounted (s b : State) : Prop where
  contexts : ∀ n, b.carrier n =
    { s.carrier n with cutback := (s.carrier n).cutback.map (fun k => { k with timeout := k.timeout - 1 }) }
  holds : b.holds = s.holds
  occupancy : b.occupancy = s.occupancy
  waits : b.waits = s.waits
  portC : b.portC = s.portC
  portD : b.portD = s.portD
  rest : TrafficOnly s b

/-- A carrier's loss is taken (R137). -/
def LossTaken (slot : Nat) (x y : State) : Prop := LeftService slot .lost .silent .silent 0x03 x y

/-- A carrier's cutback ends by timeout where its counter stands at 0 (R127), and nothing happens where it does not. -/
def TimeoutTaken (slot : Nat) (x y : State) : Prop :=
  (∀ k, (x.carrier slot).cutback = some k → k.timeout = 0 → CutbackEnded slot k .cutbackTimeout 0x09 x y) ∧
  ((∀ k, (x.carrier slot).cutback = some k → k.timeout ≠ 0) → y = x)

/-! ### Reports -/

/-- The carrier is heard: its silence counter starts again (R64). -/
def heard (slot : Nat) (s : State) : State := s.modifyCarrier slot (fun c => { c with silence := 0, probeSent := false })

/-- A new MOVE_REQ under the stored route number that passes steps 3 and 5 (R64, R66, R69). -/
structure GoodReport (r : MoveReq) (slot : Nat) (s : State) : Prop where
  ready : Ready .c (moveReqFrame r s.partStation) s
  source : FromCarrier r.source slot s
  fresh : NewSequence (s.carrier slot) r.sequence
  route : r.routeNumber = (s.carrier slot).routeNumber ∧ r.routeNumber ≠ 0
  onRoute : r.headIndex.toNat < (s.carrier slot).route.length
  granted : r.headIndex.toNat ≤ (s.carrier slot).limit

/-- The head index after step 6 (R70). -/
def headAfter (c : Carrier) (r : MoveReq) : Nat := max c.head r.headIndex.toNat

/-- The head section after step 6 (R70). -/
def headSectionAfter (c : Carrier) (r : MoveReq) : Nat :=
  if c.head < r.headIndex.toNat then ((c.route[r.headIndex.toNat]?).map (fun e => e.sec)).getD 0 else c.headSection

/-- The trail cut down to a reported count (R71). -/
def trailCut (t : List RouteEntry) (count : Nat) : List RouteEntry := t.drop (t.length - min count (min 3 t.length))

/-- The trail after step 6 (R70, R71). -/
def trailAfter (c : Carrier) (r : MoveReq) : List RouteEntry :=
  trailCut (c.trail ++ (c.route.drop c.head).take (r.headIndex.toNat - c.head)) r.trailCount.toNat

/-- The remaining distance after step 6 (R72). -/
def remainingAfter (s : State) (c : Carrier) (r : MoveReq) : Nat := min r.remaining.toNat (s.lengthOf (headSectionAfter c r))

/-- What every good report leaves in the context, whatever answers it (R64, R66, R26). -/
structure ReportNoted (r : MoveReq) (d : Carrier) : Prop where
  sequence : d.lastSequence = some r.sequence
  speed : d.requestedSpeed = min r.speed.toNat 4095
  badRun : d.badRun = 0
  silence : d.silence = 0
  probeSent : d.probeSent = false

/-- Some other carrier holds the section, or holds one that conflicts with it for this carrier (R69). -/
def spaceOfAnother (s : State) (slot sec : Nat) : Prop :=
  (∃ h ∈ s.holders sec, h.slot ≠ slot) ∨
    ∃ r ∈ s.chainOf sec, ∃ h ∈ s.holders r.other, h.slot ≠ slot ∧ r.condition.applies (s.wide slot) (s.wide h.slot) = true

/-- Every hold of a carrier is FROZEN (R34). -/
def AllFrozen (slot : Nat) (v : State) : Prop := ∀ sec, ∀ h ∈ v.holders sec, h.slot = slot → h.state = .frozen

/-- The frames appended to a port's outbound queue since `s` (R152). -/
def appended (p : PortId) (s v : State) : List Frame := (v.port p).outbound.drop (s.port p).outbound.length

/-- Step 2 of R101 for the waiter in `slot`: a GRANT for its stored limit with reason CLOSED_AHEAD has been sent, and it
is the last answer unless a cutback has begun since. -/
structure ClosedGrant (slot : Nat) (s v : State) : Prop where
  kept : (v.carrier slot).keptGrant = some ((s.carrier slot).limit, permittedSpeed s (s.carrier slot))
  number : (v.carrier slot).grantNumber =
    if (s.carrier slot).keptGrant = some ((s.carrier slot).limit, permittedSpeed s (s.carrier slot)) then
      (s.carrier slot).grantNumber
    else (s.carrier slot).grantNumber + 1
  answer : (v.carrier slot).cutback = none →
    (v.carrier slot).lastAnswer = some (grantOf v slot (s.carrier slot).routeNumber (s.carrier slot).limit
      (available s (s.carrier slot) (s.carrier slot).limit) (permittedSpeed s (s.carrier slot)) 0x04)
  offered : v.portC.outbound.length < 16 →
    grantOf v slot (s.carrier slot).routeNumber (s.carrier slot).limit
      (available s (s.carrier slot) (s.carrier slot).limit) (permittedSpeed s (s.carrier slot)) 0x04 ∈ appended .c s v

/-- The route index of the first section a carrier holds ahead that is closed, in its own right or through its zone
(R118). -/
def FirstClosedAhead (v : State) (c : Carrier) (i : Nat) : Prop :=
  let closedAt (j : Nat) := c.head < j ∧ j ≤ c.limit ∧ ∃ e, c.route[j]? = some e ∧ v.closed e.sec = true
  closedAt i ∧ ∀ j, j < i → ¬closedAt j

/-- A carrier's cutback record, its counters and its hold states are as they were. -/
structure CutbackKept (slot : Nat) (s v : State) : Prop where
  cutback : (v.carrier slot).cutback = (s.carrier slot).cutback
  number : (v.carrier slot).cutbackNumber = (s.carrier slot).cutbackNumber
  holdIdle : (v.carrier slot).holdIdle = (s.carrier slot).holdIdle
  states : ∀ sec, v.holdStateOf slot sec = s.holdStateOf slot sec

/-- The close trigger with this target (R118, R120, R121): a cutback to it begins, or supersedes one with a higher target,
RECALLING what lies above it; one with the same target or a lower one absorbs it. -/
def ClosedBefore (slot target : Nat) (s v : State) : Prop :=
  let c := s.carrier slot
  let d := v.carrier slot
  let frame := cutbackOf s slot (c.cutbackNumber + 1) target
  let upto := (c.cutback.map (fun k => k.target)).getD c.limit
  ((∀ k, c.cutback = some k → target < k.target) →
    d.cutback = some ⟨c.cutbackNumber + 1, target, s.params.cutbackTimeout, frame⟩ ∧
    d.cutbackNumber = c.cutbackNumber + 1 ∧ d.lastAnswer = some frame ∧
    d.holdIdle = (if c.cutback = none then 0 else c.holdIdle) ∧
    (v.portC.outbound.length < 16 → frame ∈ appended .c s v) ∧
    ∀ sec, v.holdStateOf slot sec =
      if sec ∈ c.sectionsBetween target upto ∧ s.holdsSection slot sec = true then some .recalling
      else s.holdStateOf slot sec) ∧
  ((∃ k, c.cutback = some k ∧ k.target ≤ target) → CutbackKept slot s v)

/-- What a close of the space that `closes` names does to the traffic (R9, R11, R101, R118): the waits for it end with
condition CLOSED_AHEAD, but for re-takes of a carrier's own trail, each with the GRANT of R101 where the part is RUNNING
and no cutback is in flight, and with none otherwise; then every ACTIVE carrier that holds a now closed section ahead has
its route kept up to just before the first of these, and every other carrier its cutback record and hold states as they
were; and no carrier loses or gains a hold. That every now closed section counts, whichever close closed it, is log
entry 16. -/
def ClosedAway (closes : Nat → Bool) (s v : State) : Prop :=
  v.waits = s.waits.filter (fun w => !closes w.wantedSection || (s.carrier w.slot).inTrail w.wantedSection) ∧
  (∀ w ∈ s.waits, closes w.wantedSection = true → (s.carrier w.slot).inTrail w.wantedSection = false →
    s.admitted w.slot = true →
    (v.carrier w.slot).condition = .closedAhead ∧ (v.carrier w.slot).passedOver = 0 ∧
      (v.carrier w.slot).effectivePriority = (s.carrier w.slot).params.priority ∧
      (s.partState = .running → (s.carrier w.slot).cutback = none → ClosedGrant w.slot s v) ∧
      ((s.partState ≠ .running ∨ (s.carrier w.slot).cutback ≠ none) →
        (v.carrier w.slot).keptGrant = (s.carrier w.slot).keptGrant ∧
        (v.carrier w.slot).grantNumber = (s.carrier w.slot).grantNumber ∧
        ((v.carrier w.slot).cutback = (s.carrier w.slot).cutback →
          (v.carrier w.slot).lastAnswer = (s.carrier w.slot).lastAnswer))) ∧
  (∀ slot i, (s.carrier slot).state = .active → FirstClosedAhead v (s.carrier slot) i → ClosedBefore slot (i - 1) s v) ∧
  (∀ slot, ((s.carrier slot).state ≠ .active ∨ ∀ i, ¬FirstClosedAhead v (s.carrier slot) i) → CutbackKept slot s v) ∧
  (∀ sec, (v.holders sec).map (fun h => h.slot) = (s.holders sec).map (fun h => h.slot)) ∧
  v.occupancy = s.occupancy ∧
  (∀ slot, (v.carrier slot).limit = (s.carrier slot).limit ∧ (v.carrier slot).head = (s.carrier slot).head ∧
    (v.carrier slot).route = (s.carrier slot).route ∧ (v.carrier slot).trail = (s.carrier slot).trail)

/-! ### Giving sections back -/

/-- The entries that trimming a trail to a reported count takes from its oldest end (R71). -/
def trailTrimmed (t : List RouteEntry) (count : Nat) : List RouteEntry := t.take (t.length - min count (min 3 t.length))

/-- NOTICE PROGRESS of a carrier that stands at this head (R71, R159). -/
def progressNotice (s : State) (slot head sec : Nat) : Frame :=
  noticeOf s ([0x07, byte slot] ++ halfBytes (s.carrier slot).station ++ [(s.carrier slot).routeNumber, byte head] ++
    bytes2 sec)

/-- The trail has been trimmed (R71): each trimmed section is released, every other hold of the carrier stands as it was,
the releases are counted, and NOTICE PROGRESS has been sent each time the count came to the progress interval. -/
structure TrailGivenBack (slot : Nat) (trail : List RouteEntry) (head headSection count : Nat) (s v : State) : Prop where
  released : ∀ e ∈ trailTrimmed trail count, v.holdsSection slot e.sec = false
  kept : ∀ sec, (∀ e ∈ trailTrimmed trail count, e.sec ≠ sec) → v.holdStateOf slot sec = s.holdStateOf slot sec
  uncounted : (s.carrier slot).params.progress = 0 → (v.carrier slot).releases = (s.carrier slot).releases
  counted : (s.carrier slot).releases < (s.carrier slot).params.progress →
    (v.carrier slot).releases =
      ((s.carrier slot).releases + (trailTrimmed trail count).length) % (s.carrier slot).params.progress
  notices : (s.carrier slot).releases < (s.carrier slot).params.progress → v.portD.outbound.length < 16 →
    (appended .d s v).filter (fun f => f = progressNotice s slot head headSection) =
      List.replicate (((s.carrier slot).releases + (trailTrimmed trail count).length) / (s.carrier slot).params.progress)
        (progressNotice s slot head headSection)

/-! ### Properties that every step keeps -/

/-- Every sparse table is in canonical form (log entry 13). -/
structure State.TablesCanonical (s : State) : Prop where
  sections : Rising s.sections
  zones : Rising s.zones
  holds : Rising s.holds
  occupancy : Rising s.occupancy
  carriers : Rising s.carriers
  held : ∀ e ∈ s.holds, e.2.holders ≠ []
  occupied : ∀ e ∈ s.occupancy, e.2 ≠ 0
  admitted : ∀ e ∈ s.carriers, e.2.state ≠ .vacant

/-- A port's queues hold no more than their places (R145). -/
def Port.WithinPlaces (p : Port) : Prop :=
  p.inbound.length ≤ Config.inboundPlaces ∧ p.outbound.length ≤ Config.ownPlaces

/-- No section has more holders than its capacity, and a section has a hold direction exactly while it is held (R59). -/
def State.HoldsLawful (s : State) : Prop :=
  ∀ sec, (s.holders sec).length ≤ s.capacityOf sec ∧ (s.holders sec = [] ↔ (s.hold sec).direction = none)

/-- A halt cause stands exactly while the part is HALTED, the Cycle Timer runs exactly outside UNCONFIGURED, and in
UNCONFIGURED no carrier is admitted (R131, R134, R139, R46). -/
structure State.PartCoherent (s : State) : Prop where
  cause : s.haltCause = .none ↔ s.partState ≠ .halted
  timer : s.timerRunning = true ↔ s.partState ≠ .unconfigured
  carriers : s.partState = .unconfigured → s.carriers = []

/-- The record numbers of the conflict pool: free list first, then the chains. -/
def State.poolRecords (s : State) : List Nat :=
  s.freeRecords ++ s.sections.flatMap (fun e => e.2.chain.map (fun r => r.record))

/-- A section's chain has a record naming another section with a condition. -/
def State.ChainHas (s : State) (a b : Nat) (cond : ConflictCondition) : Prop :=
  ∃ r ∈ s.chainOf a, r.other = b ∧ r.condition = cond

/-- The conflict pool (R14, R15): every record is on the free list or on exactly one chain, no chain exceeds 16
records, names its own section or names one section twice, and the relation is symmetric with its condition. -/
structure State.PoolLawful (s : State) : Prop where
  rising : Rising s.sections
  records : s.poolRecords.Perm allRecords
  short : ∀ a, (s.chainOf a).length ≤ Config.maxChain
  once : ∀ a, ((s.chainOf a).map (fun r => r.other)).Nodup
  notSelf : ∀ a, ∀ r ∈ s.chainOf a, r.other ≠ a
  symmetric : ∀ a b cond, s.ChainHas a b cond ↔ s.ChainHas b a cond

/-- A carrier's position fields (R25) and cutback record (R114). -/
structure Carrier.PositionLawful (c : Carrier) (lookahead : Nat) : Prop where
  noRoute : c.routeNumber = 0 → c.route = [] ∧ c.head = 0 ∧ c.limit = 0
  route : c.routeNumber ≠ 0 → (c.route[c.head]?).map (fun e => e.sec) = some c.headSection ∧ c.limit < c.route.length
  order : c.head ≤ c.limit ∧ c.limit ≤ c.head + lookahead
  trail : c.trail.length ≤ Config.maxTrail
  active : c.state = .active → c.routeNumber ≠ 0
  idle : c.state = .idle → c.routeNumber = 0
  cutback : ∀ k, c.cutback = some k → c.state = .active ∧ c.head ≤ k.target ∧ k.target < c.limit

/-- The wait list (R95): at most 64 entries, no carrier twice, and only ACTIVE carriers, each with a route entry beyond
its limit to wait for. -/
structure State.WaitsLawful (s : State) : Prop where
  count : s.waits.length ≤ Config.maxSlot
  once : (s.waits.map (fun w => w.slot)).Nodup
  active : ∀ w ∈ s.waits, (s.carrier w.slot).state = .active ∧ (s.carrier w.slot).limit + 1 < (s.carrier w.slot).route.length

/-- The ranges of a carrier's parameters, exchange fields and counters (R23, R26, R28), and of its cutback's timeout
(R115). A silence counter at its limit and a third bad report or pass-over do not outlast the step that brings them. -/
structure Carrier.RangesLawful (c : Carrier) (p : PartParams) : Prop where
  priority : c.params.priority ≤ 3
  vmax : 100 ≤ c.params.vmax ∧ c.params.vmax ≤ 4000
  decel : 100 ≤ c.params.decel ∧ c.params.decel ≤ 3000
  reaction : c.params.reaction ≤ 2000
  supervision : c.params.supervision ≤ 7
  lifetime : 2 ≤ c.params.lifetime ∧ c.params.lifetime ≤ 63
  progress : c.params.progress ≤ 15
  requestedSpeed : c.requestedSpeed ≤ 4095
  silence : c.silence < c.silenceLimit
  holdIdle : c.holdIdle ≤ 255 ∧ (p.holdLimit = 0 → c.holdIdle = 0)
  badRun : c.badRun < 3
  releases : c.releases = 0 ∨ c.releases < c.params.progress
  passedOver : c.passedOver < 3
  effectivePriority : c.params.priority ≤ c.effectivePriority ∧ c.effectivePriority ≤ 3
  timeout : ∀ k, c.cutback = some k → 1 ≤ k.timeout ∧ k.timeout ≤ 63
  outOfService : c.believed = false →
    c.silence = 0 ∧ c.probeSent = false ∧ c.holdIdle = 0 ∧ c.badRun = 0 ∧ c.releases = 0 ∧ c.passedOver = 0

/-- The ranges of the part parameters (R164, R166). -/
structure PartParams.Lawful (p : PartParams) (part : Station) : Prop where
  periodSelect : p.periodSelect ≤ 7
  margin : p.margin ≤ 1000
  lookahead : 1 ≤ p.lookahead ∧ p.lookahead ≤ 8
  holdLimit : p.holdLimit ≤ 255
  cutbackTimeout : 1 ≤ p.cutbackTimeout ∧ p.cutbackTimeout ≤ 63
  dispatchStation : p.dispatchStation ≠ 0 ∧ p.dispatchStation ≠ 0xFFFF ∧ p.dispatchStation ≠ part

/-- The stations of the admitted carriers are pairwise different, and none is reserved (R22). -/
structure State.StationsLawful (s : State) : Prop where
  once : (s.carriers.map (fun e => e.2.station)).Nodup
  notReserved : ∀ e ∈ s.carriers, e.2.station ≠ 0 ∧ e.2.station ≠ 0xFFFF ∧ e.2.station ≠ s.partStation ∧
    e.2.station ≠ s.params.dispatchStation

/-- Every admitted slot is 1 to 64, its position fields are lawful and its other fields in their ranges, a carrier that
waits for nothing has been passed over by nobody and stands at its own priority, and the stations, the part parameters
and the wait list are lawful (R21, R22, R23, R25, R26, R28, R95, R100, R114, R164). -/
structure State.TrafficLawful (s : State) : Prop where
  rising : Rising s.carriers
  slots : ∀ e ∈ s.carriers, 1 ≤ e.1 ∧ e.1 ≤ Config.maxSlot
  positions : ∀ e ∈ s.carriers, e.2.PositionLawful s.params.lookahead
  ranges : ∀ e ∈ s.carriers, e.2.RangesLawful s.params
  unwaiting : ∀ e ∈ s.carriers, s.waitOf e.1 = none → e.2.passedOver = 0 ∧ e.2.effectivePriority = e.2.params.priority
  stations : s.StationsLawful
  params : s.params.Lawful s.partStation
  waits : s.WaitsLawful

/-- The law of rights: the holds of a carrier are exactly its trail, head and ahead sections, each once (R25), RECALLING
exactly above the target of its cutback (R114), FROZEN exactly out of service (R31); a zone's occupancy is the number of
carriers in it and fits its capacity (R59); no two carriers hold sections whose conflict applies to them (R16, by the
checks of R17 and R76); and the last reported remaining lies within the head section (R26). It takes with it what these
rest on. -/
structure State.RightsLawful (s : State) : Prop where
  tables : s.TablesCanonical
  pool : s.PoolLawful
  traffic : s.TrafficLawful
  holdRecords : s.HoldsLawful
  held : ∀ slot sec, s.holdsSection slot sec = true ↔ s.admitted slot = true ∧ sec ∈ (s.carrier slot).heldSections
  holdersOnce : ∀ sec, ((s.holders sec).map (fun h => h.slot)).Nodup
  sectionsOnce : ∀ slot, s.admitted slot = true →
    (s.carrier slot).heldSections.Nodup ∧ ((s.carrier slot).route.map (fun e => e.sec)).Nodup
  recalling : ∀ slot sec, s.holdStateOf slot sec = some .recalling ↔
    ∃ k, (s.carrier slot).cutback = some k ∧ sec ∈ (s.carrier slot).sectionsBetween k.target (s.carrier slot).limit
  frozen : ∀ slot sec, s.holdStateOf slot sec = some .frozen ↔
    s.holdsSection slot sec = true ∧ (s.carrier slot).believed = false
  occupancy : ∀ z, z ≠ 0 → s.occupied z = (s.slots.filter (fun n => s.countsIn n z)).length ∧
    s.occupied z ≤ ((lookup s.zones z).map (fun x => x.capacity)).getD 0
  apart : ∀ a, ∀ r ∈ s.chainOf a, ∀ x ∈ s.holders a, ∀ y ∈ s.holders r.other, x.slot ≠ y.slot →
    r.condition.applies (s.wide x.slot) (s.wide y.slot) = false
  remaining : ∀ slot, (s.carrier slot).remaining ≤ s.lengthOf (s.carrier slot).headSection

/-! ### Which commands write what -/

/-- Commands that can write the Track Map; PORT_D_CLASSIFY can take any of them from its queue. -/
def writesMap : Instr → Bool
  | .powerOn _ _ => true
  | .portDClassify => true
  | .sectionLoad _ => true
  | .zoneLoad _ => true
  | .sectionOpen _ => true
  | .sectionClose _ => true
  | .zoneOpen _ => true
  | .zoneClose _ => true
  | .conflictAdd _ => true
  | .conflictRemove _ => true
  | .resetFull _ => true
  | _ => false

/-- Commands that can write a part parameter (R164, R165). -/
def writesParams : Instr → Bool
  | .powerOn _ _ => true
  | .portDClassify => true
  | .paramsSet _ => true
  | .resetFull _ => true
  | _ => false

/-- Commands that can write the cycle number (R131, R133). -/
def writesCycle : Instr → Bool
  | .powerOn _ _ => true
  | .portDClassify => true
  | .resetFull _ => true
  | .cycleEvent => true
  | _ => false

/-- Commands that can write the part state and its halt cause (R139 to R143). -/
def writesPartState : Instr → Bool
  | .powerOn _ _ => true
  | .portCClassify => true
  | .portDClassify => true
  | .moveReq _ => true
  | .start _ => true
  | .halt _ => true
  | .resetTraffic _ => true
  | .resetFull _ => true
  | _ => false

end Sys2Proof.Machine
end

