-- ==== Sys2Proof/Certificates/Slice0/Obligations.lean ====
section
/-! DEFINITION. The statements about the model. OBLIGATIONS.json says in words what each states and which rules it rests
on. -/

section

open Sys2Proof Sys2Proof.Machine

/-! ### The queue and the pins -/

/-- A step takes the command at the front of the queue and runs it on the state with the queue's rest. That an empty
queue leaves the state as it is, is this model's choice (log entry 1). -/
def Obligations.StepRunsFrontCommand : Prop :=
  (∀ (c : Instr) (rest : List Instr) (s : State), s.pending = c :: rest → step s = exec c { s with pending := rest }) ∧
    ∀ s : State, s.pending = [] → step s = .next s

/-- No command faults or is refused by the model, and none touches the queue of waiting commands. -/
def Obligations.EveryCommandAnswers : Prop :=
  ∀ (i : Instr) (s : State), ∃ t, exec i s = .next t ∧ t.pending = s.pending

/-- Power-on, or release of the reset input, from any state (R160, R151, R1, R7, R14, R59, R21, R95, R131, R139, R145,
R164); and while the input is held the part is inactive (R160). That its tables stand meanwhile is log entry 8, that a
vacant field R21 does not list is 0 or none is log entry 27. -/
def Obligations.PowerOnAndResetInput : Prop :=
  (∀ s : State,
    exec .resetInputAssert s = .next { s with pins := { s.pins with resetHeld := true } } ∧
      (s.pins.resetHeld = true → ∀ i : Instr, (∀ a b, i ≠ .powerOn a b) → exec i s = .next s)) ∧
  ∀ (a : BitVec 4) (b : BitVec 2) (s : State), ∃ t, exec (.powerOn a b) s = .next t ∧
    t.partStation = 0xFE00 + a.setWidth 16 ∧ t.rateStrap = b ∧ t.pins = ⟨a, b, false⟩ ∧
    (∀ n, lookup t.sections n = none) ∧ (∀ z, lookup t.zones z = none) ∧ t.freeRecords = List.range' 1 2048 ∧
    (∀ n, t.hold n = ⟨[], none⟩) ∧ (∀ z, t.occupied z = 0) ∧ (∀ n, t.carrier n = .vacant) ∧ t.waits = [] ∧
    t.cycle = 0 ∧ t.timerRunning = false ∧ t.params = ⟨2, 300, 6, 20, 5, 0x0001⟩ ∧
    t.partState = .unconfigured ∧ t.haltCause = .none ∧
    (∀ p, t.port p = ⟨.hunting, [], [], ⟨false, false, false, false, false, false, false⟩⟩) ∧ t.pending = s.pending

/-! ### The ports -/

/-- R146, R147, R148, R155: the bytes of any frame, arriving on a port that hunts, are received as that frame, which
joins the inbound queue below 8 places and is otherwise discarded with IN_OVERRUN. Nothing else changes. -/
def Obligations.FrameBytesAreReceivedWhole : Prop :=
  ∀ (p : PortId) (f : Frame) (s : State), s.pins.resetHeld = false → f.body.length ≤ 240 → (s.port p).rx = .hunting →
    ((s.port p).inbound.length < 8 →
      exec (.frameReceive p f.bytes) s = .next (s.setPort p { s.port p with inbound := (s.port p).inbound ++ [f] })) ∧
    (8 ≤ (s.port p).inbound.length →
      exec (.frameReceive p f.bytes) s =
        .next (s.setPort p { s.port p with flags := { (s.port p).flags with inOverrun := true } }))

/-- R146 byte by byte, the flags LENGTH and CHECK of R146 and R153, and R152 for the end of a transmission. -/
def Obligations.LineEventsMoveOneByteOrFrame : Prop :=
  ∀ (p : PortId) (s : State), s.pins.resetHeld = false →
    (∀ b : Byte, (s.port p).rx = .hunting → b ≠ 0xC3 → exec (.syncByte p b) s = .next s) ∧
    ((s.port p).rx = .hunting → exec (.syncByte p 0xC3) s = .next (s.setPort p { s.port p with rx := .lengthNext })) ∧
    (∀ b : Byte, (s.port p).rx = .lengthNext → 6 ≤ b.toNat → b.toNat ≤ 246 →
      exec (.syncByte p b) s = .next (s.setPort p { s.port p with rx := .taking (b.toNat + 2) [] })) ∧
    (∀ (b : Byte) (left : Nat) (taken : List Byte), (s.port p).rx = .taking (left + 2) taken →
      exec (.syncByte p b) s = .next (s.setPort p { s.port p with rx := .taking (left + 1) (taken ++ [b]) })) ∧
    (∀ (b : Byte) (bs : List Byte) (t : State), exec (.syncByte p b) s = .next t →
      exec (.frameReceive p (b :: bs)) s = exec (.frameReceive p bs) t) ∧
    (∀ (f : Frame) (rest : List Frame), (s.port p).outbound = f :: rest →
      exec (.frameTransmitEnd p) s = .next (s.setPort p { s.port p with outbound := rest })) ∧
    (∀ n : Byte, (s.port p).rx = .hunting → (n.toNat < 6 ∨ 246 < n.toNat) →
      exec (.frameReceive p [0xC3, n]) s =
        .next (s.setPort p { s.port p with flags := { (s.port p).flags with length := true } })) ∧
    (∀ (payload : List Byte) (check : Half), (s.port p).rx = .hunting → 6 ≤ payload.length → payload.length ≤ 246 →
      check ≠ crc payload →
      exec (.frameReceive p ([0xC3, byte payload.length] ++ payload ++ halfBytes check)) s =
        .next (s.setPort p { s.port p with flags := { (s.port p).flags with check := true } }))

/-- The five tests of R149 on the front frame of Port C. That the classification of a carrier frame does the whole of its
MOVE_REQ, CUTBACK_ACK or REJOIN row is the model's choice (log entries 2 and 3). -/
def Obligations.PortCIsSortedByR149 : Prop :=
  ∀ (f : Frame) (rest : List Frame) (s : State), s.pins.resetHeld = false → s.portC.inbound = f :: rest →
    let u := dropFront .c s
    let ofCarrier := f.kind = 0x21 ∨ f.kind = 0x22 ∨ f.kind = 0x23
    let layout := if f.kind = 0x21 then 7 else 2
    let misplaced := f.kind ∈ [0x31, 0x32, 0x33, 0x34, 0x52, 0x53, 0x41, 0x51]
    (ofCarrier → f.destination = s.partStation → f.body.length ≠ layout →
      exec .portCClassify s = .next (u.raise .c .length)) ∧
    (ofCarrier → f.destination = s.partStation → f.body.length = layout → s.slotOf f.source = none →
      exec .portCClassify s = .next (u.raise .c .unknownStation)) ∧
    ((∀ r, f = moveReqFrame r s.partStation → exec .portCClassify s = exec (.moveReq r) s) ∧
      (∀ a, f = cutbackAckFrame a s.partStation → exec .portCClassify s = exec (.cutbackAck a) s) ∧
      (∀ r, f = rejoinFrame r s.partStation → exec .portCClassify s = exec (.rejoin r) s)) ∧
    (misplaced → exec .portCClassify s = .next (u.raise .c .misplaced)) ∧
    (¬misplaced → (¬ofCarrier ∨ f.destination ≠ s.partStation) →
      exec .portCClassify s = .next (offerForward .d f u))

/-- The six tests of R150 on the front frame of Port D; the commands of test 2 are in the next statement. -/
def Obligations.PortDIsSortedByR150 : Prop :=
  ∀ (f : Frame) (rest : List Frame) (s : State), s.pins.resetHeld = false → s.portD.inbound = f :: rest →
    let u := dropFront .d s
    let misplaced := f.kind ∈ [0x21, 0x22, 0x23, 0x31, 0x32, 0x33, 0x34, 0x52, 0x53]
    (f.kind = 0x51 → f.destination = s.partStation → f.body.length < 2 →
      exec .portDClassify s = .next (u.raise .d .length)) ∧
    (∀ (m : Mgmt) (code : Byte), f = mgmtFrame m code s.partStation → (code = 0 ∨ 0x13 < code.toNat) →
      exec .portDClassify s = .next (answer m .badCommand [] u)) ∧
    (∀ o, f = routeFrame o → exec .portDClassify s = exec (.route o) s) ∧
    (misplaced → exec .portDClassify s = .next (u.raise .d .misplaced)) ∧
    (f.kind ≠ 0x51 → f.kind ≠ 0x41 → ¬misplaced → f.destination = s.partStation →
      exec .portDClassify s = .next u) ∧
    (f.kind ≠ 0x41 → ¬misplaced → f.destination ≠ s.partStation →
      exec .portDClassify s = .next (offerForward .c f u))

/-- R148 to R150 and the command codes of R158: a row that stands for a frame is the classification of that frame where it
stands first in its port's queue, and otherwise the frame has arrived and waits its turn behind the others (log entries 2
and 3). -/
def Obligations.FrameRowsStandForTheirFrames : Prop :=
  ∀ (i : Instr) (p : PortId) (f : Frame) (s : State), s.pins.resetHeld = false → frameOf s.partStation i = some (p, f) →
    ((s.port p).inbound.head? = some f → exec i s = exec (classifyRow p) s) ∧
    ((s.port p).inbound ≠ [] → (s.port p).inbound.head? ≠ some f → (s.port p).inbound.length < 8 →
      exec i s = .next (s.setPort p { s.port p with inbound := (s.port p).inbound ++ [f] })) ∧
    ((s.port p).inbound ≠ [] → (s.port p).inbound.head? ≠ some f → 8 ≤ (s.port p).inbound.length →
      exec i s = .next (s.setPort p { s.port p with flags := { (s.port p).flags with inOverrun := true } }))

/-- R161 check 2 with the parameter lengths of R158: a wrong length is answered with BAD_VALUE and changes nothing, the
loads with 0 records applied. -/
def Obligations.WrongLengthsAreRefused : Prop :=
  ∀ (m : Mgmt) (s : State),
    let u := dropFront .d s
    let refused := Host.Outcome.next (φ := Fault) (ρ := Refusal) (answer m .badValue [] u)
    let refusedLoad := Host.Outcome.next (φ := Fault) (ρ := Refusal) (answer m .badValue [0] u)
    let n := m.params.length
    let count (i : Nat) := (m.params.getD i 0).toNat
    (MgmtReady 0x01 m s → (n < 3 ∨ n ≠ 3 + 12 * count 2 ∨ 19 < count 2) → exec (.sectionLoad m) s = refusedLoad) ∧
    (MgmtReady 0x02 m s → (n < 2 ∨ n ≠ 2 + count 1) → exec (.zoneLoad m) s = refusedLoad) ∧
    (MgmtReady 0x03 m s → n ≠ 2 → exec (.sectionOpen m) s = refused) ∧
    (MgmtReady 0x04 m s → n ≠ 2 → exec (.sectionClose m) s = refused) ∧
    (MgmtReady 0x05 m s → n ≠ 5 → exec (.conflictAdd m) s = refused) ∧
    (MgmtReady 0x06 m s → n ≠ 4 → exec (.conflictRemove m) s = refused) ∧
    (MgmtReady 0x07 m s → n ≠ 1 → exec (.zoneOpen m) s = refused) ∧
    (MgmtReady 0x08 m s → n ≠ 1 → exec (.zoneClose m) s = refused) ∧
    (MgmtReady 0x09 m s → n ≠ 17 → exec (.carrierAdmit m) s = refused) ∧
    (MgmtReady 0x0A m s → n ≠ 1 → exec (.carrierRetire m) s = refused) ∧
    (MgmtReady 0x0B m s → (n < 5 ∨ n ≠ 5 + 3 * count 4) → exec (.carrierClear m) s = refused) ∧
    (MgmtReady 0x0C m s → n ≠ 2 → exec (.carrierRecall m) s = refused) ∧
    (MgmtReady 0x0D m s → n ≠ 1 → exec (.carrierQuery m) s = refused) ∧
    (MgmtReady 0x0E m s → n ≠ 2 → exec (.sectionQuery m) s = refused) ∧
    (MgmtReady 0x0F m s → n ≠ 0 → exec (.partQuery m) s = refused) ∧
    (MgmtReady 0x10 m s → n ≠ 3 → exec (.paramsSet m) s = refused) ∧
    (MgmtReady 0x11 m s → n ≠ 0 → exec (.start m) s = refused) ∧
    (MgmtReady 0x12 m s → n ≠ 0 → exec (.halt m) s = refused)

/-! ### The Track Map -/

/-- One record of SECTION_LOAD: the checks of R4 in order, each refusal with its status and 0 applied; a record that
passes is stored (R5), open with an empty chain when the section is new, with open state and chain kept when it is
reloaded; a record that differs for a referenced section is refused with IN_USE (R6). Nothing else of the part changes. -/
def Obligations.SectionLoadChecksAndAppliesARecord : Prop :=
  (∀ (m : Mgmt) (s : State) (n : Nat) (d : SectionRecord), MgmtReady 0x01 m s → m.params = bytes2 n ++ [1] ++ d.bytes →
    n < 65536 → (d.fromNode < 65536 ∧ d.toNode < 65536 ∧ d.length < 65536 ∧ d.speedLimit < 65536) →
    (d.capacity < 256 ∧ d.zone < 256) →
    let u := dropFront .d s
    let number := 1 ≤ n ∧ n ≤ 1023
    let fields := (1 ≤ d.fromNode ∧ d.fromNode ≤ 1023) ∧ (1 ≤ d.toNode ∧ d.toNode ≤ 1023) ∧ d.fromNode ≠ d.toNode ∧
      (100 ≤ d.length ∧ d.length ≤ 30000) ∧ (100 ≤ d.speedLimit ∧ d.speedLimit ≤ 4000) ∧ d.zone ≤ 63
    let capacity := (d.kind = .lane ∧ 1 ≤ d.capacity ∧ d.capacity ≤ 4) ∨ (d.kind = .cell ∧ d.capacity = 1)
    let zone := d.zone = 0 ∨ (lookup s.zones d.zone).isSome = true
    let refused (st : Status) := exec (.sectionLoad m) s = .next (answer m st [0] u)
    (¬(number ∧ fields ∧ capacity) → refused .badValue) ∧
    (number → fields → capacity → ¬zone → refused .noSuch) ∧
    (number → fields → capacity → zone →
      (lookup s.sections n = none → s.referenced n = false →
        exec (.sectionLoad m) s =
          .next (answer m .ok [1] { u with sections := insertAt s.sections n ⟨d, true, []⟩ })) ∧
      (∀ e, lookup s.sections n = some e → (s.referenced n = false ∨ e.data = d) →
        exec (.sectionLoad m) s =
          .next (answer m .ok [1] { u with sections := insertAt s.sections n { e with data := d } })) ∧
      (∀ e, lookup s.sections n = some e → s.referenced n = true → e.data ≠ d → refused .inUse))) ∧
  ∀ (m : Mgmt) (s : State), MgmtReady 0x01 m s → m.params.length = 15 → numAt m.params 2 = 1 →
    (byteAt m.params 3 ∉ [0x01, 0x02] ∨ byteAt m.params 13 ∉ [0x01, 0x02, 0x03]) →
    exec (.sectionLoad m) s = .next (answer m .badValue [0] (dropFront .d s))

/-- SECTION_LOAD of any count (R3, R4, R5): record i, its own twelve bytes, goes to section first + i, checked against
the state that the records before it have left; the load stops at the first that fails, whose status the RESULT carries
with the number applied, or ends with OK. Every other section and the rest of the part stay as they were. -/
def Obligations.SectionLoadAppliesRecordsInOrder : Prop :=
  ∀ (m : Mgmt) (s : State), MgmtReady 0x01 m s → 3 ≤ m.params.length → m.params.length = 3 + 12 * numAt m.params 2 →
    numAt m.params 2 ≤ 19 →
    let first := numAt2 m.params 0
    let count := numAt m.params 2
    let record (i : Nat) := recordAt m.params (3 + 12 * i)
    ∃ (v : Nat → State) (st : Status) (k : Nat), k ≤ count ∧ v 0 = dropFront .d s ∧
      exec (.sectionLoad m) s = .next (answer m st [byte k] (v k)) ∧
      (∀ i, i < k → ∃ d, record i = some d ∧ checkSection (v i) (first + i) (some d) = none ∧
        (lookup (v i).sections (first + i) = none →
          v (i + 1) = { v i with sections := insertAt (v i).sections (first + i) ⟨d, true, []⟩ }) ∧
        (∀ e, lookup (v i).sections (first + i) = some e →
          v (i + 1) = { v i with sections := insertAt (v i).sections (first + i) { e with data := d } })) ∧
      (k < count → checkSection (v k) (first + k) (record k) = some st) ∧ (k = count → st = .ok) ∧
      (∀ i d, i < k → record i = some d → (lookup (v k).sections (first + i)).map (fun e => e.data) = some d) ∧
      (∀ j, (j < first ∨ first + k ≤ j) → lookup (v k).sections j = lookup s.sections j) ∧
      v k = { dropFront .d s with sections := (v k).sections }

/-- ZONE_LOAD (R8). Of one record: its checks in order, a new zone open, a loaded one with its open state kept, and a wake
event exactly where the capacity of a loaded zone rises. Of any count: the records in order up to the first that fails,
each on the state the ones before it have left. -/
def Obligations.ZoneLoadAppliesRecordsInOrder : Prop :=
  (∀ (m : Mgmt) (s : State), MgmtReady 0x02 m s → m.params.length = 3 → numAt m.params 1 = 1 →
    let z := numAt m.params 0
    let c := numAt m.params 2
    let u := dropFront .d s
    let stored (o : Bool) := { u with zones := insertAt s.zones z ⟨c, o⟩ }
    ((z = 0 ∨ 63 < z) → exec (.zoneLoad m) s = .next (answer m .badValue [0] u)) ∧
    (1 ≤ z → z ≤ 63 → (c = 0 ∨ 64 < c) → exec (.zoneLoad m) s = .next (answer m .badValue [0] u)) ∧
    (1 ≤ z → z ≤ 63 → 1 ≤ c → c ≤ 64 → c < s.occupied z →
      exec (.zoneLoad m) s = .next (answer m .inUse [0] u)) ∧
    (1 ≤ z → z ≤ 63 → 1 ≤ c → c ≤ 64 → s.occupied z ≤ c → lookup s.zones z = none →
      exec (.zoneLoad m) s = .next (answer m .ok [1] (stored true))) ∧
    (∀ e, 1 ≤ z → z ≤ 63 → 1 ≤ c → c ≤ 64 → s.occupied z ≤ c → lookup s.zones z = some e → c ≤ e.capacity →
      exec (.zoneLoad m) s = .next (answer m .ok [1] (stored e.isOpen))) ∧
    (∀ e, 1 ≤ z → z ≤ 63 → 1 ≤ c → c ≤ 64 → s.occupied z ≤ c → lookup s.zones z = some e → e.capacity < c →
      exec (.zoneLoad m) s = .next (answer m .ok [1] (wake (.zoneRoom z) none (stored e.isOpen))))) ∧
  ∀ (m : Mgmt) (s : State), MgmtReady 0x02 m s → 2 ≤ m.params.length → m.params.length = 2 + numAt m.params 1 →
    let first := numAt m.params 0
    let count := numAt m.params 1
    let capacity (i : Nat) := numAt m.params (2 + i)
    ∃ (v : Nat → State) (st : Status) (k : Nat), k ≤ count ∧ v 0 = dropFront .d s ∧
      exec (.zoneLoad m) s = .next (answer m st [byte k] (v k)) ∧
      (∀ i, i < k →
        (1 ≤ first + i ∧ first + i ≤ 63 ∧ 1 ≤ capacity i ∧ capacity i ≤ 64 ∧ (v i).occupied (first + i) ≤ capacity i) ∧
        (lookup (v i).zones (first + i) = none →
          v (i + 1) = { v i with zones := insertAt (v i).zones (first + i) ⟨capacity i, true⟩ }) ∧
        (∀ e, lookup (v i).zones (first + i) = some e →
          let stored := { v i with zones := insertAt (v i).zones (first + i) ⟨capacity i, e.isOpen⟩ }
          v (i + 1) = if e.capacity < capacity i then wake (.zoneRoom (first + i)) none stored else stored)) ∧
      (k < count →
        (¬(1 ≤ first + k ∧ first + k ≤ 63 ∧ 1 ≤ capacity k ∧ capacity k ≤ 64) ∧ st = .badValue) ∨
        ((1 ≤ first + k ∧ first + k ≤ 63 ∧ 1 ≤ capacity k ∧ capacity k ≤ 64) ∧
          capacity k < (v k).occupied (first + k) ∧ st = .inUse)) ∧
      (k = count → st = .ok)

/-- SECTION_OPEN (R10) and ZONE_OPEN (R12): an opening is a wake event, the sections of a zone keep their own open state,
and a section of a closed zone is obtained by nobody. -/
def Obligations.OpeningsReportToArbiter : Prop :=
  (∀ (m : Mgmt) (s : State), MgmtReady 0x03 m s → m.params.length = 2 →
    let n := numAt2 m.params 0
    let u := dropFront .d s
    ((n = 0 ∨ 1023 < n) → exec (.sectionOpen m) s = .next (answer m .badValue [] u)) ∧
    (1 ≤ n → n ≤ 1023 → lookup s.sections n = none → exec (.sectionOpen m) s = .next (answer m .noSuch [] u)) ∧
    (∀ e, 1 ≤ n → n ≤ 1023 → lookup s.sections n = some e → e.isOpen = true →
      exec (.sectionOpen m) s = .next (answer m .ok [] u)) ∧
    (∀ e, 1 ≤ n → n ≤ 1023 → lookup s.sections n = some e → e.isOpen = false →
      exec (.sectionOpen m) s = .next (answer m .ok []
        (wake (.sectionOpened n) none { u with sections := insertAt s.sections n { e with isOpen := true } }))) ∧
    (∀ (t : State) (slot : Nat) (r : RouteEntry), (t.carrier slot).inTrail r.sec = false → t.zoneIsOpen r.sec = false →
      attempt t slot r = some .closed)) ∧
  ∀ (m : Mgmt) (s : State), MgmtReady 0x07 m s → m.params.length = 1 →
    let z := numAt m.params 0
    let u := dropFront .d s
    ((z = 0 ∨ 63 < z) → exec (.zoneOpen m) s = .next (answer m .badValue [] u)) ∧
    (1 ≤ z → z ≤ 63 → lookup s.zones z = none → exec (.zoneOpen m) s = .next (answer m .noSuch [] u)) ∧
    (∀ e, 1 ≤ z → z ≤ 63 → lookup s.zones z = some e → e.isOpen = true →
      exec (.zoneOpen m) s = .next (answer m .ok [] u)) ∧
    (∀ e, 1 ≤ z → z ≤ 63 → lookup s.zones z = some e → e.isOpen = false →
      ∃ v, exec (.zoneOpen m) s = .next (answer m .ok [] v) ∧
        v = wake (.zoneOpened z) none { u with zones := insertAt s.zones z { e with isOpen := true } } ∧
        (lookup v.zones z).map (fun x => x.isOpen) = some true ∧ v.sections = s.sections)

/-- SECTION_CLOSE (R9, R101, R118): the waits for the section end, then each ACTIVE carrier with closed space ahead is asked
back to just before the first such section, and the others keep cutback and holds. That space an earlier close closed
counts as well is the model's choice (log entry 16). -/
def Obligations.SectionCloseTurnsAway : Prop :=
  ∀ (m : Mgmt) (s : State), MgmtReady 0x04 m s → m.params.length = 2 → (s.waits.map (fun w => w.slot)).Nodup →
    let n := numAt2 m.params 0
    let u := dropFront .d s
    ((n = 0 ∨ 1023 < n) → exec (.sectionClose m) s = .next (answer m .badValue [] u)) ∧
    (1 ≤ n → n ≤ 1023 → lookup s.sections n = none → exec (.sectionClose m) s = .next (answer m .noSuch [] u)) ∧
    (∀ e, 1 ≤ n → n ≤ 1023 → lookup s.sections n = some e → e.isOpen = false →
      exec (.sectionClose m) s = .next (answer m .ok [] u)) ∧
    (∀ e, 1 ≤ n → n ≤ 1023 → lookup s.sections n = some e → e.isOpen = true →
      ∃ v, exec (.sectionClose m) s = .next (answer m .ok [] v) ∧
        v.sections = insertAt s.sections n { e with isOpen := false } ∧ v.zones = s.zones ∧
        v.freeRecords = s.freeRecords ∧ SameControl s v ∧ SameBoard s v ∧ ClosedAway (fun k => k = n) s v)

/-- ZONE_CLOSE (R11, R101, R118): the member sections keep their own open state; the waits for them end, then each ACTIVE
carrier with closed space ahead is asked back to just before the first such section, and the others keep cutback and
holds. That space an earlier close closed counts as well is the model's choice (log entry 16). -/
def Obligations.ZoneCloseTurnsAway : Prop :=
  ∀ (m : Mgmt) (s : State), MgmtReady 0x08 m s → m.params.length = 1 → (s.waits.map (fun w => w.slot)).Nodup →
    let z := numAt m.params 0
    let u := dropFront .d s
    ((z = 0 ∨ 63 < z) → exec (.zoneClose m) s = .next (answer m .badValue [] u)) ∧
    (1 ≤ z → z ≤ 63 → lookup s.zones z = none → exec (.zoneClose m) s = .next (answer m .noSuch [] u)) ∧
    (∀ e, 1 ≤ z → z ≤ 63 → lookup s.zones z = some e → e.isOpen = false →
      exec (.zoneClose m) s = .next (answer m .ok [] u)) ∧
    (∀ e, 1 ≤ z → z ≤ 63 → lookup s.zones z = some e → e.isOpen = true →
      ∃ v, exec (.zoneClose m) s = .next (answer m .ok [] v) ∧
        v.zones = insertAt s.zones z { e with isOpen := false } ∧ v.sections = s.sections ∧
        v.freeRecords = s.freeRecords ∧ SameControl s v ∧ SameBoard s v ∧
        ClosedAway (fun k => s.zoneOf k = z) s v)

/-- CONFLICT_ADD (R17, R18): its checks in order, an unknown condition code among them, a new pair takes the two front
records, and an existing pair changes its condition in place, waking the Arbiter only from ALWAYS to WIDE. -/
def Obligations.ConflictAddLinksThePair : Prop :=
  (∀ (m : Mgmt) (s : State), MgmtReady 0x05 m s → m.params.length = 5 → byteAt m.params 4 ∉ [0x01, 0x02] →
    exec (.conflictAdd m) s = .next (answer m .badValue [] (dropFront .d s))) ∧
  ∀ (m : Mgmt) (s : State) (cond : ConflictCondition), MgmtReady 0x05 m s → m.params.length = 5 →
    byteAt m.params 4 = cond.code →
    let a := numAt2 m.params 0
    let b := numAt2 m.params 2
    let u := dropFront .d s
    let numbers := 1 ≤ a ∧ a ≤ 1023 ∧ 1 ≤ b ∧ b ≤ 1023
    let lawful := ∀ x ∈ s.holders a, ∀ y ∈ s.holders b, x.slot ≠ y.slot →
      cond.applies (s.wide x.slot) (s.wide y.slot) = false
    let unrelated := ∀ r ∈ s.chainOf a, r.other ≠ b
    ((¬numbers ∨ a = b) → exec (.conflictAdd m) s = .next (answer m .badValue [] u)) ∧
    (numbers → a ≠ b → (lookup s.sections a = none ∨ lookup s.sections b = none) →
      exec (.conflictAdd m) s = .next (answer m .noSuch [] u)) ∧
    (∀ ea eb, numbers → a ≠ b → lookup s.sections a = some ea → lookup s.sections b = some eb →
      (¬lawful → exec (.conflictAdd m) s = .next (answer m .inUse [] u)) ∧
      (lawful → unrelated → s.freeRecords.length < 2 → exec (.conflictAdd m) s = .next (answer m .noRoom [] u)) ∧
      (lawful → unrelated → 2 ≤ s.freeRecords.length → (16 ≤ ea.chain.length ∨ 16 ≤ eb.chain.length) →
        exec (.conflictAdd m) s = .next (answer m .tooLong [] u)) ∧
      (∀ f g rest, lawful → unrelated → s.freeRecords = f :: g :: rest → ea.chain.length < 16 → eb.chain.length < 16 →
        exec (.conflictAdd m) s = .next (answer m .ok (bytes2 rest.length)
          { u with
            freeRecords := rest
            sections := insertAt (insertAt s.sections a { ea with chain := ea.chain ++ [⟨f, b, cond⟩] })
              b { eb with chain := eb.chain ++ [⟨g, a, cond⟩] } })) ∧
      (∀ r, lawful → s.conflictBetween a b = some r →
        let changed (other : Nat) (l : List ConflictRecord) :=
          l.map (fun x => if x.other = other then { x with condition := cond } else x)
        let sections := insertAt (insertAt s.sections a { ea with chain := changed b ea.chain }) b
          { eb with chain := changed a eb.chain }
        let v := { u with sections := sections }
        exec (.conflictAdd m) s = .next (answer m .ok (bytes2 s.freeRecords.length)
          (if r.condition = .always ∧ cond = .wide then wake (.conflictLoosened a b) none v else v))))

/-- CONFLICT_REMOVE (R19): b's former record stands first on the free list. -/
def Obligations.ConflictRemoveGivesRecordsBack : Prop :=
  ∀ (m : Mgmt) (s : State), MgmtReady 0x06 m s → m.params.length = 4 →
    let a := numAt2 m.params 0
    let b := numAt2 m.params 2
    let u := dropFront .d s
    let numbers := 1 ≤ a ∧ a ≤ 1023 ∧ 1 ≤ b ∧ b ≤ 1023 ∧ a ≠ b
    (¬numbers → exec (.conflictRemove m) s = .next (answer m .badValue [] u)) ∧
    (numbers → (lookup s.sections a = none ∨ lookup s.sections b = none ∨ s.conflictBetween a b = none) →
      exec (.conflictRemove m) s = .next (answer m .noSuch [] u)) ∧
    (∀ ea eb ra rb, numbers → lookup s.sections a = some ea → lookup s.sections b = some eb →
      s.conflictBetween a b = some ra → s.conflictBetween b a = some rb →
      exec (.conflictRemove m) s = .next (answer m .ok (bytes2 (s.freeRecords.length + 2))
        (wake (.conflictLoosened a b) none
          { u with
            freeRecords := rb.record :: ra.record :: s.freeRecords
            sections := insertAt (insertAt s.sections a { ea with chain := ea.chain.filter (fun x => x.other ≠ b) })
              b { eb with chain := eb.chain.filter (fun x => x.other ≠ a) } })))

/-! ### The Hold Table and the Arbiter -/

/-- A release (R61), and the trimming of a trail by releases, oldest first (R71): each is reported to the Arbiter before the
next, with the carrier as the requester that R105 passes by, each counts, and NOTICE PROGRESS goes out when the count
reaches the progress interval. That the notice is composed after the frames of the release's own re-runs is the model's
choice (log entry 18). -/
def Obligations.TrimmingReleasesOldestFirst : Prop :=
  (∀ (slot sec : Nat) (requester : Option Nat) (s : State), Rising s.holds →
    (s.holdsSection slot sec = false → release slot sec requester s = s) ∧
    (s.holdsSection slot sec = true → ∃ u, HoldGone slot sec s u ∧
      ((s.zoneOf sec ≠ 0 ∧ ∀ k, s.zoneOf k = s.zoneOf sec → u.holdsSection slot k = false) →
        release slot sec requester s = wake (.released sec (some (s.zoneOf sec))) requester u) ∧
      ((s.zoneOf sec = 0 ∨ ∃ k, s.zoneOf k = s.zoneOf sec ∧ u.holdsSection slot k = true) →
        release slot sec requester s = wake (.released sec none) requester u))) ∧
  ∀ (slot count : Nat) (s : State), s.admitted slot = true →
    let c := s.carrier slot
    let gone := trailTrimmed c.trail count
    let v := trimTrail slot count s
    v.carrier slot = { c with trail := trailCut c.trail count, releases := (v.carrier slot).releases } ∧
    TrailGivenBack slot c.trail c.head c.headSection count s v ∧ BystandersKept slot s v ∧ TrafficOnly s v ∧
    ∃ f : Nat → State, f 0 = s ∧ f gone.length = v ∧ ∀ i e, gone[i]? = some e →
      let c := (f i).carrier slot
      let u := release slot e.sec (some slot) ((f i).modifyCarrier slot (fun c => { c with trail := c.trail.tail }))
      c.trail.head? = some e ∧
      (c.params.progress = 0 → f (i + 1) = u) ∧
      (c.releases + 1 < c.params.progress →
        f (i + 1) = u.modifyCarrier slot (fun c => { c with releases := c.releases + 1 })) ∧
      (c.params.progress ≠ 0 → c.params.progress ≤ c.releases + 1 →
        f (i + 1) = (offerOwn .d (progressNotice u slot c.head c.headSection) u).modifyCarrier slot
          (fun c => { c with releases := 0 }))

/-- An attempt on a section: the six checks of R76 in order, each with its stop reason and the blocker of R96, and the
test of R57 in their place for a section of the carrier's own trail; and what an attempt that passes does (R60, R77,
R57). -/
def Obligations.AttemptsFollowTheSixChecks : Prop :=
  ∀ (slot : Nat) (r : RouteEntry) (s : State), s.TablesCanonical → s.admitted slot = true →
    let c := s.carrier slot
    let own := ∃ e ∈ c.trail, e.sec = r.sec
    let hs := s.holders r.sec
    let zone := s.zoneOf r.sec
    let stops (reason : BlockReason) (blocker : Option Nat) := attempt s slot r = some (.blocked reason blocker)
    let inZone := ∃ k, s.zoneOf k = zone ∧ s.holdsSection slot k = true
    (own → (∀ h ∈ hs, h.slot = slot) → attempt s slot r = none) ∧
    (own → ∀ (i : Nat) (h : Holder), hs[i]? = some h → h.slot ≠ slot →
      (∀ (j : Nat) (x : Holder), j < i → hs[j]? = some x → x.slot = slot) →
      stops .capacity (some h.slot)) ∧
    (∀ x, ¬own → lookup s.sections r.sec = some x →
      let closed := x.isOpen = false ∨ (zone ≠ 0 ∧ ∀ z, lookup s.zones zone = some z → z.isOpen = false)
      let heldBack := ∃ h ∈ hs, h.slot ≠ slot ∧ h.state ≠ .active
      let room := hs.length < x.data.capacity ∧ (hs = [] ∨ (s.hold r.sec).direction = some r.direction)
      let meets (k : ConflictRecord) (h : Holder) := h.slot ≠ slot ∧
        k.condition.applies (s.wide slot) (s.wide h.slot) = true
      let apart := ∀ k ∈ x.chain, ∀ h ∈ s.holders k.other, ¬meets k h
      let full := zone ≠ 0 ∧ ¬inZone ∧ ∀ z, lookup s.zones zone = some z → z.capacity ≤ s.occupied zone
      (closed → attempt s slot r = some .closed) ∧
      (¬closed → heldBack → ∀ o rest, hs = o :: rest → stops .recall (some o.slot)) ∧
      (¬closed → ¬heldBack → ¬room → stops .capacity (hs.head?.map (fun h => h.slot))) ∧
      (¬closed → ¬heldBack → room → ∀ (i j : Nat) (k : ConflictRecord) (h : Holder), x.chain[i]? = some k →
        (s.holders k.other)[j]? = some h → meets k h →
        (∀ (i' : Nat) (k' : ConflictRecord), i' < i → x.chain[i']? = some k' →
          ∀ h' ∈ s.holders k'.other, ¬meets k' h') →
        (∀ (j' : Nat) (h' : Holder), j' < j → (s.holders k.other)[j']? = some h' → ¬meets k h') →
        stops .conflict (some h.slot)) ∧
      (¬closed → ¬heldBack → room → apart → full → stops .zoneFull none) ∧
      (¬closed → ¬heldBack → room → apart → ¬full → attempt s slot r = none)) ∧
    (attempt s slot r = none → (own → s.holdsSection slot r.sec = true) →
      let v := acquire slot r s
      let ended := (s.waitOf slot).map (fun w => w.wantedSection) = some r.sec
      (own → v.hold r.sec = { s.hold r.sec with direction := some r.direction }) ∧
      (¬own → v.hold r.sec = ⟨hs ++ [⟨slot, .active⟩], some r.direction⟩) ∧
      (∀ k, k ≠ r.sec → v.hold k = s.hold k) ∧
      (¬own → zone ≠ 0 → ¬inZone → v.occupied zone = s.occupied zone + 1) ∧
      ((own ∨ zone = 0 ∨ inZone) → v.occupied zone = s.occupied zone) ∧
      (∀ z, z ≠ zone → v.occupied z = s.occupied z) ∧
      (own → (v.carrier slot).trail = c.trail.filter (fun e => e.sec ≠ r.sec)) ∧ (¬own → (v.carrier slot).trail = c.trail) ∧
      (ended → (v.carrier slot).passedOver = 0 ∧ (v.carrier slot).effectivePriority = c.params.priority ∧
        v.waits = s.waits.filter (fun w => w.slot ≠ slot)) ∧
      (¬ended → (v.carrier slot).passedOver = c.passedOver ∧ (v.carrier slot).effectivePriority = c.effectivePriority ∧
        v.waits = s.waits) ∧
      v.carrier slot = { c with
        limit := c.limit + 1
        trail := (v.carrier slot).trail
        passedOver := (v.carrier slot).passedOver
        effectivePriority := (v.carrier slot).effectivePriority } ∧
      (∀ n, n ≠ slot → v.carrier n = s.carrier n) ∧ v.portC = s.portC ∧ v.portD = s.portD ∧ TrafficOnly s v)

/-- What a computation of step 10 or a re-run comes to (R78, R91, R97, R98, R100, R109, R110): without a failed attempt, or
with one on a closed section, the carrier has no wait afterwards; a blocked one is entered at the end of the list or
updated in its place, and where the deadlock walk then finds a circle the wait ends again with condition and NOTICE
DEADLOCK. The GRANT carries the first reason of R91 that applies, its sending sets the condition of that name (R82), and
a request that reaches step 10 is answered with it, whatever it changes. -/
def Obligations.ComputationsWaitAndGiveReasons : Prop :=
  (∀ (slot : Nat) (s : State), s.admitted slot = true →
    let l := acquireLoop slot (s.carrier slot).route.length false s
    let b := l.state
    let c := b.carrier slot
    let v := (compute slot s).state
    let d := v.carrier slot
    let fresh (x : Carrier) : Carrier := { x with passedOver := 0, effectivePriority := x.params.priority }
    let waited := (b.waitOf slot).isSome = true
    let granted (reason : GrantReason) :=
      (compute slot s).grant = ⟨d.routeNumber, d.limit, available v d d.limit, permittedSpeed v d, reason⟩
    let ended := v.waits = b.waits.filter (fun w => w.slot ≠ slot) ∧ (waited → d = fresh c) ∧ (¬waited → d = c) ∧
      v.portD = b.portD
    (l.stop = none → ended ∧
      (d.limit + 1 = d.route.length → granted .routeEnd) ∧
      (d.limit + 1 ≠ d.route.length → permittedSpeed v d < firstClamp v d → granted .reduced) ∧
      (d.limit + 1 ≠ d.route.length → firstClamp v d ≤ permittedSpeed v d → granted .none)) ∧
    (∀ i sec, l.stop = some ⟨i, sec, .closed⟩ → ended ∧ granted .closedAhead) ∧
    (∀ i sec reason blocker, l.stop = some ⟨i, sec, .blocked reason blocker⟩ →
      let entry : WaitEntry := ⟨slot, i, sec, reason, blocker⟩
      let listed := if waited then b.waits.map (fun w => if w.slot = slot then entry else w) else b.waits ++ [entry]
      let walked := ∀ old, b.waitOf slot = some old → old.blocker ≠ blocker
      let circle (visited : List Nat) := walked ∧
        ∃ n, blocker = some n ∧ deadlockWalk listed slot 8 n [] = some visited
      (∀ visited, circle visited →
        v.waits = b.waits.filter (fun w => w.slot ≠ slot) ∧ d = { fresh c with condition := .deadlock } ∧
        v.portD = (offerOwn .d (noticeOf s ([0x01, byte slot] ++ bytes2 sec ++ [reason.code, byte visited.length] ++
          visited.map byte)) b).portD ∧ granted .deadlock) ∧
      ((∀ visited, ¬circle visited) →
        v.waits = listed ∧ (waited → d = c) ∧ (¬waited → d = fresh c) ∧ v.portD = b.portD ∧ granted .waiting)) ∧
    v.holds = b.holds ∧ v.occupancy = b.occupancy ∧ (∀ n, n ≠ slot → v.carrier n = b.carrier n) ∧ v.portC = b.portC ∧
    TrafficOnly b v ∧
    (∀ g, ((sendGrant slot g v).carrier slot).condition =
      if g.reason = .reduced then .reduced else if g.reason = .waiting then .waiting
      else if g.reason = .deadlock then .deadlock else if g.reason = .closedAhead then .closedAhead
      else d.condition)) ∧
  ∀ (r : MoveReq) (slot : Nat) (s : State), GoodReport r slot s → s.partState = .running →
    let c := s.carrier slot
    c.state = .active → c.cutback = none → ¬(headAfter c r + 1 = c.route.length ∧ r.speed = 0) →
    ∃ w, exec (.moveReq r) s = .next (sendGrant slot (compute slot w).grant (compute slot w).state) ∧
      TrailGivenBack slot (c.trail ++ (c.route.drop c.head).take (r.headIndex.toNat - c.head)) (headAfter c r)
        (headSectionAfter c r) r.trailCount.toNat s w ∧
      (w.carrier slot).head = headAfter c r ∧ (w.carrier slot).headSection = headSectionAfter c r ∧
      (w.carrier slot).trail = trailAfter c r ∧ (w.carrier slot).remaining = remainingAfter s c r ∧
      (w.carrier slot).limit = c.limit ∧ ReportNoted r (w.carrier slot)

/-- A wake event (R103 to R106) touches waiters alone: every other carrier keeps its context and its holds, so does the
requester of the release and a carrier with a cutback in flight, no carrier loses a hold, and a part that is not RUNNING
re-runs nobody. -/
def Obligations.WakeTouchesWaitersOnly : Prop :=
  ∀ (ev : WakeEvent) (requester : Option Nat) (s : State),
    let v := wake ev requester s
    TrafficOnly s v ∧ (s.partState ≠ .running → v = s) ∧
    (∀ n, (s.waitOf n = none ∨ requester = some n ∨ (s.carrier n).cutback.isSome = true) →
      v.carrier n = s.carrier n ∧ ∀ sec, v.holdStateOf n sec = s.holdStateOf n sec) ∧
    (∀ n sec, s.holdsSection n sec = true → v.holdsSection n sec = true) ∧
    (∀ n, v.admitted n = s.admitted n)

/-- The re-runs of a wake event (R103 to R107): the affected waiters, each once, by effective priority and then by position,
each after the one before, but for the ones R105 passes by. A re-run sends its GRANT where limit or speed differ from the
kept ones; a waiter left standing after an earlier gain of the event is passed over; and the third time in its wait it is
reported with NOTICE STARVED, raised by one up to 3, and counted from 0 again. -/
def Obligations.RerunsFollowPriorityThenArrival : Prop :=
  (∀ (slot : Nat) (gained : Bool) (s : State), s.admitted slot = true →
    let k := compute slot s
    let b := if (k.state.carrier slot).keptGrant ≠ some (k.grant.limit, k.grant.speed) then sendGrant slot k.grant k.state
      else k.state
    let c := b.carrier slot
    let gains := (s.carrier slot).limit < c.limit
    let raised := min 3 (c.effectivePriority + 1)
    ((rerun slot gained s).2 = true ↔ gained = true ∨ gains) ∧
    ((gained = false ∨ gains ∨ b.waitOf slot = none) → (rerun slot gained s).1 = b) ∧
    (∀ e, gained = true → ¬gains → b.waitOf slot = some e →
      (c.passedOver < 2 →
        (rerun slot gained s).1 = b.modifyCarrier slot (fun c => { c with passedOver := c.passedOver + 1 })) ∧
      (2 ≤ c.passedOver →
        (rerun slot gained s).1 = (offerOwn .d (noticeOf b ([0x02, byte slot] ++ halfBytes c.station ++
            bytes2 e.wantedSection ++ [e.reason.code, byte (e.blocker.getD 0), byte raised])) b).modifyCarrier slot
          (fun c => { c with effectivePriority := raised, passedOver := 0 })))) ∧
  (∀ (ev : WakeEvent) (requester : Option Nat) (s : State), s.partState = .running →
    let passedBy (n : Nat) (t : State) := t.waitOf n = none ∨ (t.carrier n).cutback ≠ none ∨ requester = some n
    wake ev requester s = ((affectedSlots s ev).foldl
      (fun p n => if passedBy n p.1 then p else rerun n p.2 p.1) (s, false)).1) ∧
  ∀ (ev : WakeEvent) (s : State), (s.waits.map (fun w => w.slot)).Nodup →
    (∀ w ∈ s.waits, (s.carrier w.slot).effectivePriority ≤ 3) →
    let place (n : Nat) := s.waits.findIdx (fun w => w.slot = n)
    let priority (n : Nat) := (s.carrier n).effectivePriority
    (∀ n, n ∈ affectedSlots s ev ↔ ∃ w ∈ s.waits, w.slot = n ∧ ev.affects s w.wantedSection = true) ∧
    (affectedSlots s ev).Pairwise (fun x y =>
      priority y < priority x ∨ (priority x = priority y ∧ place x < place y))

/-- The deadlock walk (R109): it finds exactly the circles of at most 8 carriers that lead from the blocker, each waiting
for the next, to the requester, and names them in walk order. -/
def Obligations.DeadlockWalkFindsCircles : Prop :=
  ∀ (waits : List WaitEntry) (requester blocker : Nat) (visited : List Nat),
    deadlockWalk waits requester 8 blocker [] = some visited ↔
      visited.length ≤ 8 ∧ visited.head? = some blocker ∧ visited.getLast? = some requester ∧
      requester ∉ visited.dropLast ∧
      ∀ i x y, visited[i]? = some x → visited[i + 1]? = some y →
        (waits.find? (fun w => w.slot = x)).bind (fun w => w.blocker) = some y

/-- The acquisition loop (R88) stops without a failed attempt only when the need at v1 is met, the limit is at the last
route entry, or the lookahead depth is reached; a stop is the failed attempt on route entry L + 1 with none of the three
met; it has gained exactly where the limit has risen; it never lowers the limit, and it takes nothing from anyone. -/
def Obligations.AcquisitionLoopEndsAsR88Says : Prop :=
  ∀ (slot : Nat) (s : State), s.admitted slot = true →
    let l := acquireLoop slot (s.carrier slot).route.length false s
    let c := l.state.carrier slot
    (l.stop = none → need l.state c (firstClamp l.state c) ≤ available l.state c c.limit ∨
      c.route.length ≤ c.limit + 1 ∨ l.state.params.lookahead ≤ c.limit - c.head) ∧
    (∀ st, l.stop = some st → st.index = c.limit + 1 ∧
      (∃ e, c.route[c.limit + 1]? = some e ∧ st.sec = e.sec ∧ attempt l.state slot e = some st.cause) ∧
      available l.state c c.limit < need l.state c (firstClamp l.state c) ∧
      c.limit - c.head < l.state.params.lookahead) ∧
    (l.gained = true ↔ (s.carrier slot).limit < c.limit) ∧
    (s.carrier slot).limit ≤ c.limit ∧
    (∀ n sec, s.holdsSection n sec = true → l.state.holdsSection n sec = true) ∧
    (∀ n sec, n ≠ slot → l.state.holdStateOf n sec = s.holdStateOf n sec) ∧
    ∀ n, n ≠ slot → l.state.carrier n = s.carrier n

/-! ### The stopping arithmetic -/

/-- The stopping need (R86): braking and reaction distance are the smallest whole numbers not below the true quotients,
D(0) is the margin, and D never decreases as v increases. -/
def Obligations.StoppingNeedRoundsUpAndGrows : Prop :=
  ∀ (a t m v : Nat), 0 < a →
    (v * v ≤ brakingDistance a v * (2 * a) ∧ ∀ b, v * v ≤ b * (2 * a) → brakingDistance a v ≤ b) ∧
    (v * t ≤ reactionDistance t v * 1000 ∧ ∀ r, v * t ≤ r * 1000 → reactionDistance t v ≤ r) ∧
    stoppingNeed a t m v = min 65535 (brakingDistance a v + reactionDistance t v + m) ∧
    (m ≤ 1000 → stoppingNeed a t m 0 = m) ∧
    ∀ w, v ≤ w → stoppingNeed a t m v ≤ stoppingNeed a t m w

/-- The permitted speed (R90): it is v2 where v2 fits; otherwise the largest multiple of 50 up to v2 that fits, where the
margin fits; otherwise 0. It fits the distance or is 0, and is never above the first clamp, vmax, the requested speed or
the speed limit of any section from the head through the limit (R85, R89). -/
def Obligations.PermittedSpeedIsTheLargestThatStops : Prop :=
  ∀ (s : State) (c : Carrier), s.params.margin ≤ 1000 →
    let v := permittedSpeed s c
    let g := available s c c.limit
    (need s c (secondClamp s c) ≤ g → v = secondClamp s c) ∧
    (g < need s c (secondClamp s c) → s.params.margin ≤ g →
      50 ∣ v ∧ v ≤ secondClamp s c ∧ ∀ k, 50 * k ≤ secondClamp s c → need s c (50 * k) ≤ g → 50 * k ≤ v) ∧
    (g < s.params.margin → v = 0) ∧
    (need s c v ≤ g ∨ v = 0) ∧ v ≤ c.requestedSpeed ∧ v ≤ c.params.vmax ∧ v ≤ s.speedLimitOf c.headSection ∧
    ∀ e ∈ c.ahead, v ≤ s.speedLimitOf e.sec

/-! ### Carrier commands -/

/-- CARRIER_ADMIT. A carrier that can stand where it is put (R23, R32, R33) is admitted: its slot takes the values of
admission, is appended to the head section's holders, and counts in the zone. Every other order is refused by the first
check of R32 that fails, and changes nothing. -/
def Obligations.CarrierAdmitChecksAndTakesTheSlot : Prop :=
  (∀ (m : Mgmt) (s : State) (slot sec : Nat) (station : Station) (p : AdmissionParams) (d : Direction) (e : SectionEntry),
    MgmtReady 0x09 m s →
    m.params = [byte slot] ++ halfBytes station ++ [byte p.priority, byte p.wide.toNat] ++ bytes2 p.vmax ++
      bytes2 p.decel ++ bytes2 p.reaction ++ [byte p.supervision, byte p.lifetime, byte p.progress] ++ bytes2 sec ++
      [d.code] →
    s.partState ≠ .unconfigured → s.TablesCanonical → (∀ k, s.holdsSection slot k = false) →
    1 ≤ slot → slot ≤ 64 → station ≠ 0 → station ≠ 0xFFFF → station ≠ s.partStation →
    station ≠ s.params.dispatchStation →
    p.priority ≤ 3 → 100 ≤ p.vmax → p.vmax ≤ 4000 → 100 ≤ p.decel → p.decel ≤ 3000 → p.reaction ≤ 2000 →
    p.supervision ≤ 7 → 2 ≤ p.lifetime → p.lifetime ≤ 63 → p.progress ≤ 15 → 1 ≤ sec → sec ≤ 1023 →
    s.admitted slot = false → s.slotOf station = none → lookup s.sections sec = some e →
    e.data.allowed.permits d = true → (∀ h ∈ s.holders sec, h.state = .active) →
    (s.holders sec).length < e.data.capacity → (s.holders sec = [] ∨ (s.hold sec).direction = some d) →
    (∀ r ∈ e.chain, ∀ h ∈ s.holders r.other, r.condition.applies p.wide (s.wide h.slot) = false) →
    (e.data.zone = 0 ∨ ∃ z, lookup s.zones e.data.zone = some z ∧ s.occupied e.data.zone < z.capacity) →
    ∃ v, exec (.carrierAdmit m) s = .next (answer m .ok [] v) ∧
      v.carrier slot =
        { Carrier.vacant with
          state := .idle
          station := station
          params := p
          headSection := sec
          effectivePriority := p.priority } ∧
      (∀ n, n ≠ slot → v.carrier n = s.carrier n) ∧
      v.hold sec = ⟨s.holders sec ++ [⟨slot, .active⟩], some d⟩ ∧ (∀ k, k ≠ sec → v.hold k = s.hold k) ∧
      (∀ z, v.occupied z = if z = e.data.zone ∧ z ≠ 0 then s.occupied z + 1 else s.occupied z) ∧
      v.waits = s.waits ∧ v.portC = s.portC ∧ TrafficOnly s v) ∧
  ∀ (m : Mgmt) (s : State), MgmtReady 0x09 m s → m.params.length = 17 →
    let slot := numAt m.params 0
    let station := halfAt m.params 1
    let sec := numAt2 m.params 14
    let refused (st : Status) := exec (.carrierAdmit m) s = .next (answer m st [] (dropFront .d s))
    let inRange := (1 ≤ slot ∧ slot ≤ 64) ∧
      (station ≠ 0 ∧ station ≠ 0xFFFF ∧ station ≠ s.partStation ∧ station ≠ s.params.dispatchStation) ∧
      numAt m.params 3 ≤ 3 ∧ numAt m.params 4 ≤ 1 ∧ (100 ≤ numAt2 m.params 5 ∧ numAt2 m.params 5 ≤ 4000) ∧
      (100 ≤ numAt2 m.params 7 ∧ numAt2 m.params 7 ≤ 3000) ∧ numAt2 m.params 9 ≤ 2000 ∧ numAt m.params 11 ≤ 7 ∧
      (2 ≤ numAt m.params 12 ∧ numAt m.params 12 ≤ 63) ∧ numAt m.params 13 ≤ 15 ∧ (1 ≤ sec ∧ sec ≤ 1023) ∧
      (numAt m.params 16 = 1 ∨ numAt m.params 16 = 2)
    (s.partState = .unconfigured → refused .wrongState) ∧
    (s.partState ≠ .unconfigured → ¬inRange → refused .badValue) ∧
    (s.partState ≠ .unconfigured → inRange →
      (s.admitted slot = true → refused .inUse) ∧
      (s.admitted slot = false → (s.slotOf station).isSome = true → refused .inUse) ∧
      (s.admitted slot = false → s.slotOf station = none → lookup s.sections sec = none → refused .noSuch) ∧
      (∀ e d, s.admitted slot = false → s.slotOf station = none → lookup s.sections sec = some e →
        byteAt m.params 16 = d.code →
        (e.data.allowed.permits d = false → refused .badValue) ∧
        (e.data.allowed.permits d = true → (obstacle s slot (numAt m.params 4 = 1) ⟨sec, d⟩).isSome = true →
          refused .inUse)))

/-- CARRIER_RETIRE (R40): the wait goes and the slot is struck as a blocker, then the holds are released in the order of R25,
each with its report before the next, and the slot is VACANT; where the carrier held nothing besides (R25) and priorities
are in their range (R23, R28), no wait entry names the slot as its blocker afterwards. -/
def Obligations.CarrierRetireGivesEverythingBack : Prop :=
  ∀ (m : Mgmt) (s : State), MgmtReady 0x0A m s → m.params.length = 1 →
    let slot := numAt m.params 0
    let refused (st : Status) := exec (.carrierRetire m) s = .next (answer m st [] (dropFront .d s))
    ((slot = 0 ∨ 64 < slot) → refused .badValue) ∧
    (1 ≤ slot → slot ≤ 64 → s.admitted slot = false → refused .noSuch) ∧
    (1 ≤ slot → slot ≤ 64 → (s.carrier slot).cutback.isSome = true → refused .busy) ∧
    (1 ≤ slot → slot ≤ 64 → s.admitted slot = true → (s.carrier slot).cutback = none →
      ∃ v, exec (.carrierRetire m) s = .next (answer m .ok [] v) ∧ v.admitted slot = false ∧ v.carrier slot = .vacant ∧
        v.waitOf slot = none ∧
        (∀ sec, v.holdsSection slot sec = true ↔
          s.holdsSection slot sec = true ∧ sec ∉ (s.carrier slot).heldSections) ∧
        ((∀ sec, s.holdsSection slot sec = true → sec ∈ (s.carrier slot).heldSections) →
          (∀ n, (s.carrier n).params.priority ≤ 3 ∧ (s.carrier n).effectivePriority ≤ 3) →
          ∀ w ∈ v.waits, w.blocker ≠ some slot) ∧
        (∃ u w, u.waits = (s.waits.filter (fun e => e.slot ≠ slot)).map
              (fun e => if e.blocker = some slot then { e with blocker := none } else e) ∧
          u.holds = s.holds ∧ u.occupancy = s.occupancy ∧ u.portC = s.portC ∧ u.portD = (dropFront .d s).portD ∧
          (∀ n, n ≠ slot → u.carrier n = s.carrier n) ∧ (u.carrier slot).params = (s.carrier slot).params ∧
          TrafficOnly s u ∧
          InTurn (fun sec x y => y = release slot sec none x) (s.carrier slot).heldSections u w ∧ v = w.vacate slot) ∧
        BystandersKept slot s v ∧ TrafficOnly s v)

/-- CARRIER_CLEAR (R38, R39): all or nothing, its seven checks in order, and on success the carrier is IDLE and holds
exactly what it should, by steps 1 to 3 in their order: the kept holds ACTIVE, each reported before the next, the others
acquired unreported, the unnamed ones released, each reported before the next. Three points here are no rule's but the
model's choices: that step 1 takes the kept sections trail oldest first and then the head (log entry 15), that a section
of step 2 counts in its zone where the carrier had no hold there, unnamed ones counted too (log entry 14), and that step 2
is entered before the reports of step 1 where one of those has taken its place (log entry 25). -/
def Obligations.CarrierClearPlacesTheCarrier : Prop :=
  (∀ (m : Mgmt) (s : State), MgmtReady 0x0B m s → 5 ≤ m.params.length → m.params.length = 5 + 3 * numAt m.params 4 →
    let trail := numAt m.params 4
    let sectionRange (n : Nat) := 1 ≤ n ∧ n ≤ 1023
    ¬((1 ≤ numAt m.params 0 ∧ numAt m.params 0 ≤ 64) ∧ sectionRange (numAt2 m.params 1) ∧
        byteAt m.params 3 ∈ [0x01, 0x02] ∧ trail ≤ 3 ∧
        ∀ i, i < trail → sectionRange (numAt2 m.params (5 + 3 * i)) ∧ byteAt m.params (7 + 3 * i) ∈ [0x01, 0x02]) →
      exec (.carrierClear m) s = .next (answer m .badValue [] (dropFront .d s))) ∧
  ∀ (m : Mgmt) (s : State) (slot : Nat) (p : Position), MgmtReady 0x0B m s →
    m.params = [byte slot] ++ p.head.bytes ++ [byte p.trail.length] ++ (p.trail.map RouteEntry.bytes).flatten →
    1 ≤ slot → slot ≤ 64 → p.trail.length ≤ 3 → (∀ e ∈ p.entries, 1 ≤ e.sec ∧ e.sec ≤ 1023) →
    let c := s.carrier slot
    let refused (st : Status) := exec (.carrierClear m) s = .next (answer m st [] (dropFront .d s))
    let out := c.state = .lost ∨ c.state = .quarantined ∨ c.state = .rejoining
    let once := (p.entries.map (fun e => e.sec)).Nodup
    let loaded := ∀ e ∈ p.entries, s.loaded e.sec = true
    let allowed := ∀ e ∈ p.entries, s.permits e = true
    let free := ∀ e ∈ p.entries, keepableOrObtainable (withoutUnnamed slot p s) slot e = true
    (s.admitted slot = false → refused .noSuch) ∧
    (s.admitted slot = true → c.believed = true → refused .wrongState) ∧
    (s.admitted slot = true → out → ¬once → refused .badValue) ∧
    (s.admitted slot = true → out → once → ¬loaded → refused .noSuch) ∧
    (s.admitted slot = true → out → once → loaded → ¬allowed → refused .badValue) ∧
    (s.admitted slot = true → out → once → loaded → allowed → ¬free → refused .inUse) ∧
    (s.admitted slot = true → out → once → loaded → allowed → free → s.TablesCanonical → AllFrozen slot s →
      s.waitOf slot = none →
      ∃ v, exec (.carrierClear m) s = .next (answer m .ok [] v) ∧
        v.carrier slot =
          { c with
            state := .idle
            routeNumber := 0
            route := []
            head := 0
            limit := 0
            headSection := p.head.sec
            trail := p.trail
            remaining := 0
            requestedSpeed := 0
            lastSequence := none
            lastAnswer := none
            keptGrant := none
            silence := 0
            probeSent := false
            holdIdle := 0
            badRun := 0
            releases := 0
            passedOver := 0
            effectivePriority := c.params.priority
            lostCause := .none } ∧
        (∀ e ∈ p.entries, v.holdStateOf slot e.sec = some .active ∧ (v.hold e.sec).direction = some e.direction) ∧
        (∀ sec ∈ c.heldSections, p.names sec = false → v.holdsSection slot sec = false) ∧
        (let kept := p.entries.filter (fun e => s.holdsSection slot e.sec);
          let taken := p.entries.filter (fun e => !s.holdsSection slot e.sec)
          let unnamed := c.heldSections.filter (fun sec => s.holdsSection slot sec && !p.names sec)
          let u := dropFront .d s
          let x := keepHolds slot kept u
          let room := ∀ e ∈ taken, obstacle x slot (s.wide slot) e = none
          ∃ y w, InTurn (HoldKept slot) kept u x ∧
            (room → InTurn (HoldEntered slot) taken x y) ∧
            (¬room → ∃ z, InTurn (HoldEntered slot) taken u z ∧ InTurn (HoldKept slot) kept z y) ∧
            InTurn (fun sec x y => y = release slot sec none x) unnamed y w ∧ v = w.putCarrier slot (v.carrier slot)) ∧
        BystandersKept slot s v ∧ TrafficOnly s v)

/-- CARRIER_RECALL (R119), and what its trigger does (R120 to R122): a cutback begins, is superseded, or absorbs it. -/
def Obligations.CarrierRecallAsksForSpaceBack : Prop :=
  ∀ (m : Mgmt) (s : State), MgmtReady 0x0C m s → m.params.length = 2 →
    let slot := numAt m.params 0
    let target := numAt m.params 1
    let c := s.carrier slot
    let u := dropFront .d s
    let refused (st : Status) := exec (.carrierRecall m) s = .next (answer m st [] u)
    let named := 1 ≤ slot ∧ slot ≤ 64 ∧ target ≤ 31
    (¬named → refused .badValue) ∧
    (named → s.admitted slot = false → refused .noSuch) ∧
    (named → s.admitted slot = true → c.believed = false → refused .wrongState) ∧
    (named → c.believed = true → (target < c.head ∨ c.limit < target) → refused .badValue) ∧
    (named → c.believed = true → c.head ≤ target → target = c.limit →
      exec (.carrierRecall m) s =
        .next (answer m .ok [c.cutbackNumber, byte ((c.cutback.map (fun k => k.target)).getD 255)] u)) ∧
    (named → c.state = .active → c.head ≤ target → target < c.limit → c.cutback = none →
      ∃ v, exec (.carrierRecall m) s = .next (answer m .ok [c.cutbackNumber + 1, byte target] v) ∧
        CutbackSent slot target c.limit u v) ∧
    (∀ k, named → c.believed = true → c.head ≤ target → target < c.limit → c.cutback = some k → target < k.target →
      ∃ v, exec (.carrierRecall m) s = .next (answer m .ok [c.cutbackNumber + 1, byte target] v) ∧
        CutbackSent slot target k.target u v) ∧
    (∀ k, named → c.believed = true → c.head ≤ target → target < c.limit → c.cutback = some k → k.target ≤ target →
      exec (.carrierRecall m) s = .next (answer m .ok [c.cutbackNumber, byte k.target] u))

/-- CARRIER_QUERY (R41) with the whole layout of R158, 46 bytes and three for each route entry, and the condition
released. -/
def Obligations.CarrierQueryShowsAndClears : Prop :=
  ∀ (m : Mgmt) (s : State), MgmtReady 0x0D m s → m.params.length = 1 →
    let slot := numAt m.params 0
    let c := s.carrier slot
    let refused (st : Status) := exec (.carrierQuery m) s = .next (answer m st [] (dropFront .d s))
    let entry (e : RouteEntry) := bytes2 e.sec ++ [e.direction.code]
    let trailPlace (i : Nat) := ((c.trail[i]?).map entry).getD [0, 0, 0]
    let target := match c.cutback with
      | some k => byte k.target
      | none => 255
    let sequence := match c.lastSequence with
      | some q => [0, q]
      | none => [1, 0]
    let wide : Byte := if c.params.wide then 1 else 0
    let data : List Byte :=
      [c.state.code] ++ halfBytes c.station ++ [byte c.params.priority, byte c.effectivePriority, wide] ++
        bytes2 c.params.vmax ++ bytes2 c.params.decel ++ bytes2 c.params.reaction ++
        [byte c.params.supervision, byte c.params.lifetime, byte c.params.progress] ++
        [c.routeNumber, byte c.route.length, byte c.head, byte c.limit] ++ bytes2 c.headSection ++
        [byte c.trail.length] ++ (trailPlace 0 ++ trailPlace 1 ++ trailPlace 2) ++ bytes2 c.remaining ++
        bytes2 c.requestedSpeed ++ sequence ++ [c.grantNumber, c.cutbackNumber, target] ++
        [byte c.silence, byte c.holdIdle, byte c.badRun, byte c.passedOver, c.lostCause.code, c.condition.code] ++
        (c.route.map entry).flatten
    ((slot = 0 ∨ 64 < slot) → refused .badValue) ∧
    (1 ≤ slot → slot ≤ 64 → s.admitted slot = false → refused .noSuch) ∧
    (1 ≤ slot → slot ≤ 64 → s.admitted slot = true → c.trail.length ≤ 3 →
      data.length = 46 + 3 * c.route.length ∧
      ∃ v, exec (.carrierQuery m) s = .next (answer m .ok data v) ∧
        v.carrier slot = { c with condition := .none } ∧ OnlyContext slot s v ∧ v.portC = s.portC)

/-! ### Route orders -/

/-- A route order passes exactly where all ten checks hold (R45 to R51). -/
def Obligations.RouteInspectionAccepts : Prop :=
  ∀ (o : RouteOrder) (s : State) (slot : Nat) (es : List RouteEntry),
    let c := s.carrier slot
    inspect o s = .inr (slot, es) ↔
      s.partState ≠ .unconfigured ∧ s.slotOf o.destination = some slot ∧ c.believed = true ∧
      (byteAt o.body 0 ≠ 0 ∧ 1 ≤ es.length ∧ es.length ≤ 32 ∧ (∀ e ∈ es, e.sec < 65536) ∧
        o.body = [byteAt o.body 0, byte es.length] ++ (es.map RouteEntry.bytes).flatten) ∧
      (∀ e ∈ es, s.loaded e.sec = true) ∧ (∀ e ∈ es, s.permits e = true) ∧
      (∀ i a b x y, es[i]? = some a → es[i + 1]? = some b → lookup s.sections a.sec = some x →
        lookup s.sections b.sec = some y → x.data.exitNode a.direction = y.data.entryNode b.direction) ∧
      (es.map (fun e => e.sec)).Nodup ∧ (es.head?).map (fun e => e.sec) = some c.headSection ∧
      (c.limit = c.head ∧ c.cutback = none) ∧
      ((es.head?).map (fun e => e.direction) = (s.hold c.headSection).direction ∨
        ∀ h ∈ s.holders c.headSection, h.slot = slot)

/-- The refusal reasons of a route order, in the order of the checks, each with the entry it names (R45 to R51). -/
def Obligations.RouteChecksAreTakenInOrder : Prop :=
  ∀ (o : RouteOrder) (s : State),
    let n := numAt o.body 1
    let ill := byteAt o.body 0 = 0 ∨ n = 0 ∨ 32 < n ∨ o.body.length ≠ 2 + 3 * n ∨
      ∃ i, i < n ∧ byteAt o.body (4 + 3 * i) ≠ 0x01 ∧ byteAt o.body (4 + 3 * i) ≠ 0x02
    (s.partState = .unconfigured → inspect o s = .inl (.wrongState, 0)) ∧
    (s.partState ≠ .unconfigured → (∀ slot, s.slotOf o.destination = some slot → (s.carrier slot).believed = false) →
      inspect o s = .inl (.notAdmitted, 0)) ∧
    (∀ slot, s.partState ≠ .unconfigured → s.slotOf o.destination = some slot → (s.carrier slot).believed = true →
      let c := s.carrier slot
      (ill → inspect o s = .inl (.badFormat, 0)) ∧
      (∀ es : List RouteEntry, ¬ill → o.body = [byteAt o.body 0, byte es.length] ++ (es.map RouteEntry.bytes).flatten →
        (∀ e ∈ es, e.sec < 65536) →
        let joined (i : Nat) := ∀ a b, es[i]? = some a → es[i + 1]? = some b → s.joins a b = true
        let repeated (i : Nat) := ∃ j, j < i ∧ (es[j]?).map (fun e => e.sec) = (es[i]?).map (fun e => e.sec)
        let loaded := ∀ e ∈ es, s.loaded e.sec = true
        let allowed := ∀ e ∈ es, s.permits e = true
        let onMap := loaded ∧ allowed ∧ (∀ i, joined i) ∧ (es.map (fun e => e.sec)).Nodup
        let atStart := (es.head?).map (fun e => e.sec) = some c.headSection
        (∀ i e, es[i]? = some e → s.loaded e.sec = false →
          (∀ j f, j < i → es[j]? = some f → s.loaded f.sec = true) → inspect o s = .inl (.noSection, i)) ∧
        (∀ i e, loaded → es[i]? = some e → s.permits e = false →
          (∀ j f, j < i → es[j]? = some f → s.permits f = true) → inspect o s = .inl (.badDirection, i)) ∧
        (∀ i, loaded → allowed → ¬joined i → (∀ j, j < i → joined j) → inspect o s = .inl (.discontinuous, i + 1)) ∧
        (∀ i, loaded → allowed → (∀ j, joined j) → i < es.length → repeated i → (∀ j, j < i → ¬repeated j) →
          inspect o s = .inl (.duplicate, i)) ∧
        (onMap → ¬atStart → inspect o s = .inl (.notAtStart, 0)) ∧
        (onMap → atStart → (c.limit ≠ c.head ∨ c.cutback ≠ none) → inspect o s = .inl (.aheadHeld, 0)) ∧
        (onMap → atStart → c.limit = c.head → c.cutback = none →
          (es.head?).map (fun e => e.direction) ≠ (s.hold c.headSection).direction →
          (∃ h ∈ s.holders c.headSection, h.slot ≠ slot) → inspect o s = .inl (.directionHeld, 0))))

/-- ROUTE: an accepted order is stored and forwarded unchanged (R52, R53), a refused one is dropped with its notice
(R54). -/
def Obligations.RouteIsStoredOrRefused : Prop :=
  ∀ (o : RouteOrder) (s : State), Ready .d (routeFrame o) s →
    (∀ slot es first, inspect o s = .inr (slot, es) → es.head? = some first →
      s.holdsSection slot (s.carrier slot).headSection = true →
      let c := s.carrier slot
      ∃ v, exec (.route o) s = .next (offerForward .c ⟨o.destination, o.source, 0x41, o.sequence, o.body⟩ v) ∧
        v.carrier slot =
          { c with
            routeNumber := byteAt o.body 0
            route := es
            head := 0
            limit := 0
            holdIdle := 0
            state := .active
            passedOver := if (s.waitOf slot).isSome then 0 else c.passedOver
            effectivePriority := if (s.waitOf slot).isSome then c.params.priority else c.effectivePriority } ∧
        v.waits = s.waits.filter (fun w => w.slot ≠ slot) ∧
        v.hold c.headSection = { s.hold c.headSection with direction := some first.direction } ∧
        (∀ sec, sec ≠ c.headSection → v.hold sec = s.hold sec) ∧ v.occupancy = s.occupancy ∧
        (∀ k, k ≠ slot → v.carrier k = s.carrier k) ∧ v.portC = s.portC ∧ TrafficOnly s v) ∧
    (∀ r i, inspect o s = .inl (r, i) →
      exec (.route o) s =
        .next (offerOwn .d (noticeOf s ([0x0A] ++ halfBytes o.destination ++ [byteAt o.body 0, r.code, byte i]))
          (dropFront .d s)))

/-! ### Requests -/

/-- Frames that change no traffic: from stations no slot holds (R22, R149), from carriers the part has stopped believing
(R36), repeated or stale requests (R64, R65), and acknowledgements of no current cutback (R123). -/
def Obligations.FramesThatMoveNothing : Prop :=
  ∀ (s : State),
    let u := dropFront .c s
    (∀ r, Ready .c (moveReqFrame r s.partStation) s →
      (s.slotOf r.source = none → exec (.moveReq r) s = .next (u.raise .c .unknownStation)) ∧
      (∀ slot, s.slotOf r.source = some slot → (s.carrier slot).believed = false → exec (.moveReq r) s = .next u) ∧
      (∀ slot, FromCarrier r.source slot s →
        ((s.carrier slot).lastSequence = some r.sequence → ∀ f, (s.carrier slot).lastAnswer = some f →
          exec (.moveReq r) s = .next (offerOwn .c f (heard slot u))) ∧
        ((s.carrier slot).lastSequence = some r.sequence → (s.carrier slot).lastAnswer = none →
          exec (.moveReq r) s = .next (heard slot u)) ∧
        (∀ l, (s.carrier slot).lastSequence = some l → 128 ≤ (r.sequence - l).toNat →
          exec (.moveReq r) s = .next (heard slot u)))) ∧
    (∀ a, Ready .c (cutbackAckFrame a s.partStation) s →
      (s.slotOf a.source = none → exec (.cutbackAck a) s = .next (u.raise .c .unknownStation)) ∧
      (∀ slot, s.slotOf a.source = some slot → (s.carrier slot).believed = false → exec (.cutbackAck a) s = .next u) ∧
      (∀ slot, FromCarrier a.source slot s →
        ((s.carrier slot).cutback = none ∨ (∃ k, (s.carrier slot).cutback = some k ∧ k.number ≠ a.number) ∨
          (a.verdict ≠ 0x01 ∧ a.verdict ≠ 0x02)) →
        exec (.cutbackAck a) s = .next (heard slot u))) ∧
    (∀ r, Ready .c (rejoinFrame r s.partStation) s → s.slotOf r.source = none →
      exec (.rejoin r) s = .next (u.raise .c .unknownStation))

/-- Bad reports (R66, R35): counted without an answer, and the third in a row quarantines the carrier. The sequence is not
recorded (R64). -/
def Obligations.BadReportsQuarantineAtThree : Prop :=
  ∀ (r : MoveReq) (slot : Nat) (s : State), Ready .c (moveReqFrame r s.partStation) s → FromCarrier r.source slot s →
    NewSequence (s.carrier slot) r.sequence →
    let c := s.carrier slot
    r.routeNumber = c.routeNumber →
    ((r.routeNumber = 0 ∧ r.headIndex ≠ 0) ∨ (r.routeNumber ≠ 0 ∧ c.route.length ≤ r.headIndex.toNat)) →
    let w := (dropFront .c s).modifyCarrier slot (fun c =>
      { c with silence := 0, probeSent := false, condition := .badReport, badRun := c.badRun + 1 })
    (c.badRun < 2 → exec (.moveReq r) s = .next w) ∧
    (2 ≤ c.badRun → ∃ v, exec (.moveReq r) s = .next v ∧ LeftService slot .quarantined .badReports .badReport 0x04 w v)

/-- Reports that are answered without being believed about the position (R67) and standing reports (R68, R75): the trail
count applied with its releases (R71), and a GRANT of speed 0 with reason ROUTE_CHANGE, ROUTE_END or HALTED. -/
def Obligations.StandingReportsGetSpeedZero : Prop :=
  ∀ (r : MoveReq) (slot : Nat) (s : State), Ready .c (moveReqFrame r s.partStation) s → FromCarrier r.source slot s →
    NewSequence (s.carrier slot) r.sequence →
    let c := s.carrier slot
    let u := dropFront .c s
    let applied (d : Carrier) := ReportNoted r d ∧ d.trail = trailCut c.trail r.trailCount.toNat ∧ d.head = c.head ∧
      d.limit = c.limit ∧ d.headSection = c.headSection ∧ d.route = c.route ∧ d.routeNumber = c.routeNumber ∧
      d.cutback = c.cutback ∧ d.condition = c.condition
    let rem := min r.remaining.toNat (s.lengthOf c.headSection)
    (r.routeNumber ≠ c.routeNumber →
      ∃ v, exec (.moveReq r) s = .next v ∧ applied (v.carrier slot) ∧ (v.carrier slot).remaining = c.remaining ∧
        GrantSent slot c.routeNumber c.head c.remaining 0 0x07 u v ∧
        TrailGivenBack slot c.trail c.head c.headSection r.trailCount.toNat s v ∧ BystandersKept slot s v ∧
        TrafficOnly s v) ∧
    (r.routeNumber = 0 → c.routeNumber = 0 → r.headIndex = 0 → c.limit = 0 →
      ∃ v, exec (.moveReq r) s = .next v ∧ applied (v.carrier slot) ∧ (v.carrier slot).remaining = rem ∧
        GrantSent slot 0 0 rem 0 (if s.partState = .halted then 0x06 else 0x05) u v ∧
        TrailGivenBack slot c.trail c.head c.headSection r.trailCount.toNat s v ∧ BystandersKept slot s v ∧
        TrafficOnly s v)

/-- An overrun (R69, R142, R143): the carrier is quarantined, and where the reported head lies in another carrier's space
the part is then HALTED with NOTICE HALTED. -/
def Obligations.OverrunQuarantinesAndMayHalt : Prop :=
  ∀ (r : MoveReq) (slot : Nat) (s : State) (e : RouteEntry), Ready .c (moveReqFrame r s.partStation) s →
    FromCarrier r.source slot s → NewSequence (s.carrier slot) r.sequence →
    let c := s.carrier slot
    r.routeNumber = c.routeNumber → r.routeNumber ≠ 0 → c.route[r.headIndex.toNat]? = some e →
    c.limit < r.headIndex.toNat →
    let w := (dropFront .c s).modifyCarrier slot (fun c => { c with requestedSpeed := min r.speed.toNat 4095 })
    ∃ v, LeftService slot .quarantined .overrun .overrun 0x04 w v ∧
      (¬spaceOfAnother s slot e.sec → exec (.moveReq r) s = .next v) ∧
      (spaceOfAnother s slot e.sec →
        exec (.moveReq r) s =
          .next (offerOwn .d (noticeOf s ([0x0B, 0x02] ++ bytes2 s.cycle.toNat ++ [byte slot] ++ halfBytes c.station ++
            bytes2 e.sec)) { v with partState := .halted, haltCause := .overrunConflict }))

/-- Route completion (R74): at the last route index with requested speed 0, in every part state. -/
def Obligations.RouteCompletesAtItsEnd : Prop :=
  ∀ (r : MoveReq) (slot : Nat) (s : State), GoodReport r slot s →
    let c := s.carrier slot
    c.state = .active → c.cutback = none → headAfter c r + 1 = c.route.length → r.speed = 0 →
    ∃ v, exec (.moveReq r) s = .next v ∧
      (let d := v.carrier slot;
        d.state = .idle ∧ d.routeNumber = 0 ∧ d.route = [] ∧ d.head = 0 ∧ d.limit = 0 ∧ d.holdIdle = 0 ∧
        d.headSection = headSectionAfter c r ∧ d.trail = trailAfter c r ∧ d.remaining = remainingAfter s c r ∧
        d.condition = c.condition ∧ ReportNoted r d) ∧
      GrantSent slot 0 0 (remainingAfter s c r) 0 0x05 (dropFront .c s) v ∧
      (∃ w, v.portD = (offerOwn .d (noticeOf s ([0x06, byte slot] ++ halfBytes c.station ++ [c.routeNumber] ++
        bytes2 (headSectionAfter c r))) w).portD) ∧
      TrailGivenBack slot (c.trail ++ (c.route.drop c.head).take (r.headIndex.toNat - c.head)) (headAfter c r)
        (headSectionAfter c r) r.trailCount.toNat s v ∧
      BystandersKept slot s v ∧ TrafficOnly s v

/-- Step 9 (R75): a HALTED part follows the report and answers with speed 0; nobody gains a hold and the limit stands. -/
def Obligations.HaltedPartGrantsNoSpeed : Prop :=
  ∀ (r : MoveReq) (slot : Nat) (s : State), GoodReport r slot s → s.partState = .halted →
    let c := s.carrier slot
    c.cutback = none → (c.state = .active → headAfter c r + 1 = c.route.length → r.speed ≠ 0) →
    ∃ v, exec (.moveReq r) s = .next v ∧
      (let d := v.carrier slot;
        d.limit = c.limit ∧ d.head = headAfter c r ∧ d.headSection = headSectionAfter c r ∧ d.trail = trailAfter c r ∧
        d.remaining = remainingAfter s c r ∧ d.condition = c.condition ∧ ReportNoted r d ∧
        GrantSent slot c.routeNumber c.limit (available v d c.limit) 0 0x06 (dropFront .c s) v) ∧
      TrailGivenBack slot (c.trail ++ (c.route.drop c.head).take (r.headIndex.toNat - c.head)) (headAfter c r)
        (headSectionAfter c r) r.trailCount.toNat s v ∧
      (∀ n sec, v.holdsSection n sec = true → s.holdsSection n sec = true) ∧
      (∀ n, n ≠ slot → v.carrier n = s.carrier n) ∧ v.waits = s.waits ∧ TrafficOnly s v

/-- Step 10 (R76 to R82, R88 to R91), the law of R90: the GRANT carries the limit the part stores and a speed from which
the carrier stops within the granted distance, or 0, never above its request, its vmax or the limit of any section up to
the granted one; and every section up to there is the carrier's own. So it is too where the report ends a cutback by
implicit decline (R73). -/
def Obligations.EveryGrantCanStop : Prop :=
  ∀ (r : MoveReq) (slot : Nat) (s : State), GoodReport r slot s → s.partState = .running →
    let c := s.carrier slot
    c.state = .active → (∀ k, c.cutback = some k → k.target < headAfter c r) →
    ¬(headAfter c r + 1 = c.route.length ∧ r.speed = 0) →
    c.limit < c.route.length → (c.route[c.head]?).map (fun e => e.sec) = some c.headSection → c.heldSections.Nodup →
    (∀ sec ∈ c.heldSections, s.holdsSection slot sec = true) → s.params.margin ≤ 1000 →
    ∃ v speed reason, exec (.moveReq r) s = .next v ∧
      (let d := v.carrier slot;
        GrantSent slot c.routeNumber d.limit (available v d d.limit) speed reason (dropFront .c s) v ∧
        (need v d speed ≤ available v d d.limit ∨ speed = 0) ∧ speed ≤ r.speed.toNat ∧ speed ≤ c.params.vmax ∧
        speed ≤ s.speedLimitOf d.headSection ∧ (∀ e ∈ d.ahead, speed ≤ s.speedLimitOf e.sec) ∧
        d.head = headAfter c r ∧ d.headSection = headSectionAfter c r ∧ d.remaining = remainingAfter s c r ∧
        d.route = c.route ∧ ReportNoted r d ∧ c.limit ≤ d.limit ∧ d.limit < c.route.length ∧
        (∀ sec ∈ d.heldSections, v.holdsSection slot sec = true) ∧
        (reason = 0x02 ↔ (v.waitOf slot).isSome = true)) ∧
      BystandersKept slot s v ∧ TrafficOnly s v

/-- Step 7 (R73), in every part state: with the head at or below the target the CUTBACK is sent again, byte for byte (log
entry 10), and nothing is acquired; beyond it the cutback ends by implicit decline, with NOTICE CUTBACK_DECLINED, and steps
8 to 10 answer the report on the state that leaves: ROUTE_END, HALTED or the GRANT of the computation. -/
def Obligations.CutbackComesBeforeTheGrant : Prop :=
  ∀ (r : MoveReq) (slot : Nat) (s : State) (k : CutbackRecord), GoodReport r slot s →
    let c := s.carrier slot
    c.cutback = some k →
    (headAfter c r ≤ k.target →
      ∃ v w, exec (.moveReq r) s = .next v ∧ v = offerOwn .c k.frame w ∧
        (let d := v.carrier slot;
          d.lastAnswer = some k.frame ∧ d.cutback = some k ∧ d.limit = c.limit ∧ d.grantNumber = c.grantNumber ∧
          d.head = headAfter c r ∧ d.trail = trailAfter c r ∧ d.remaining = remainingAfter s c r ∧ ReportNoted r d) ∧
        TrailGivenBack slot (c.trail ++ (c.route.drop c.head).take (r.headIndex.toNat - c.head)) (headAfter c r)
          (headSectionAfter c r) r.trailCount.toNat s v ∧
        (∀ sec, v.holdsSection slot sec = true → s.holdsSection slot sec = true) ∧
        BystandersKept slot s v ∧ TrafficOnly s v) ∧
    (k.target < headAfter c r →
      let completes := c.state = .active ∧ headAfter c r + 1 = c.route.length ∧ r.speed = 0
      ∃ u w v, exec (.moveReq r) s = .next v ∧
        (let d := u.carrier slot;
          d.cutback = some k ∧ d.limit = c.limit ∧ d.head = headAfter c r ∧ d.headSection = headSectionAfter c r ∧
          d.trail = trailAfter c r ∧ d.remaining = remainingAfter s c r ∧ ReportNoted r d) ∧
        TrailGivenBack slot (c.trail ++ (c.route.drop c.head).take (r.headIndex.toNat - c.head)) (headAfter c r)
          (headSectionAfter c r) r.trailCount.toNat s u ∧
        BystandersKept slot s u ∧ TrafficOnly s u ∧
        CutbackEnded slot k .cutbackDeclined 0x08 u w ∧
        (completes → OnlyContext slot w v ∧ GrantSent slot 0 0 (remainingAfter s c r) 0 0x05 w v ∧
          v.portD = (offerOwn .d (noticeOf s ([0x06, byte slot] ++ halfBytes c.station ++ [c.routeNumber] ++
            bytes2 (headSectionAfter c r))) w).portD ∧
          (let d := v.carrier slot;
            d.state = .idle ∧ d.routeNumber = 0 ∧ d.route = [] ∧ d.head = 0 ∧ d.limit = 0 ∧
            d.headSection = headSectionAfter c r ∧ d.trail = trailAfter c r ∧ d.condition = .cutbackDeclined)) ∧
        (¬completes → s.partState = .halted → OnlyContext slot w v ∧ v.portD = w.portD ∧
          (let d := v.carrier slot;
            GrantSent slot c.routeNumber c.limit (available v d c.limit) 0 0x06 w v ∧ d.route = c.route ∧
            d.limit = c.limit ∧ d.head = headAfter c r ∧ d.headSection = headSectionAfter c r ∧ d.trail = trailAfter c r ∧
            d.remaining = remainingAfter s c r ∧ d.condition = .cutbackDeclined)) ∧
        (¬completes → s.partState ≠ .halted → v = sendGrant slot (compute slot w).grant (compute slot w).state) ∧
        (v.carrier slot).cutback = none ∧ ReportNoted r (v.carrier slot) ∧
        (∀ sec ∈ c.sectionsBetween k.target c.limit, v.holdStateOf slot sec ≠ some .recalling) ∧
        (v.portD.outbound.length < 16 → noticeOf s ([0x08, byte slot] ++ halfBytes c.station ++
          [c.routeNumber, k.number, byte k.target, byte (headAfter c r), byte c.limit]) ∈ appended .d s v) ∧
        BystandersKept slot s v ∧ TrafficOnly s v)

/-- An accepted cutback (R124): the recalled sections are released in route order, each with its report while the record
still stands, then the limit becomes the target and the record none; the carrier's other holds stand. -/
def Obligations.AcceptedCutbackReleases : Prop :=
  ∀ (a : CutbackAck) (slot : Nat) (s : State) (k : CutbackRecord), Ready .c (cutbackAckFrame a s.partStation) s →
    FromCarrier a.source slot s →
    let c := s.carrier slot
    c.cutback = some k → a.number = k.number → a.verdict = 0x01 →
    ∃ v, exec (.cutbackAck a) s = .next v ∧
      v.carrier slot =
        { c with silence := 0, probeSent := false, limit := k.target, cutback := none, holdIdle := 0 } ∧
      (∀ sec ∈ c.sectionsBetween k.target c.limit, v.holdsSection slot sec = false) ∧
      (∀ sec, sec ∉ c.sectionsBetween k.target c.limit → v.holdStateOf slot sec = s.holdStateOf slot sec) ∧
      (∃ w, InTurn (fun sec x y => y = release slot sec none x ∧ y.carrier slot = x.carrier slot)
          (c.sectionsBetween k.target c.limit) (heard slot (dropFront .c s)) w ∧
        v = w.putCarrier slot (v.carrier slot)) ∧
      BystandersKept slot s v ∧ TrafficOnly s v

/-- A cutback that ends by an explicit decline (R126) or by timeout (R127, log entry 4): R125 with the condition and the
notice of each. A CUTBACK_TIMEOUT of a counter that does not stand at 0 does nothing (log entry 4). -/
def Obligations.UnacceptedCutbackRestores : Prop :=
  ∀ (slot : Nat) (s : State) (k : CutbackRecord),
    (s.carrier slot).cutback = some k →
    (∀ a, Ready .c (cutbackAckFrame a s.partStation) s → FromCarrier a.source slot s → a.number = k.number →
      a.verdict = 0x02 →
      ∃ v, exec (.cutbackAck a) s = .next v ∧
        CutbackEnded slot k .cutbackDeclined 0x08 (heard slot (dropFront .c s)) v) ∧
    (s.pins.resetHeld = false → k.timeout = 0 →
      ∃ v, exec (.cutbackTimeout slot) s = .next v ∧ CutbackEnded slot k .cutbackTimeout 0x09 s v) ∧
    (k.timeout ≠ 0 → exec (.cutbackTimeout slot) s = .next s)

/-- REJOIN by the carrier's state (R37): a lost or quarantined carrier becomes REJOINING, a rejoining one stays as it is,
and an idle or active one is only heard; the notice tells the dispatch station. -/
def Obligations.RejoinActsByState : Prop :=
  ∀ (r : Rejoin) (slot : Nat) (s : State), Ready .c (rejoinFrame r s.partStation) s → s.slotOf r.source = some slot →
    let c := s.carrier slot
    let u := dropFront .c s
    let rejoining := u.modifyCarrier slot (fun c => { c with state := .rejoining })
    let notice (cause : LostCause) (before : Byte) := offerOwn .d (noticeOf s ([0x05, byte slot] ++
      halfBytes c.station ++ [cause.code, before] ++ halfBytes r.believed))
    (c.state = .lost → exec (.rejoin r) s = .next (notice c.lostCause 0x03 rejoining)) ∧
    (c.state = .quarantined → exec (.rejoin r) s = .next (notice c.lostCause 0x04 rejoining)) ∧
    (c.state = .rejoining → exec (.rejoin r) s = .next u) ∧
    (c.state = .idle → exec (.rejoin r) s = .next (notice .none 0x01 (heard slot u))) ∧
    (c.state = .active → exec (.rejoin r) s = .next (notice .none 0x02 (heard slot u)))

/-! ### The cycle event -/

/-- The beat (R133, R134, R131, R132): the cycle number advances by 1 modulo 4096 and exactly one BEACON is composed, with
the new number, the part state and the halt cause. That it stands ahead of every other frame of the event is this model's
choice (log entry 6), and so is that a CYCLE_EVENT with a stopped timer leaves the state as it is (log entry 22). -/
def Obligations.CycleEventBeatsOnce : Prop :=
  ∀ (s : State), s.pins.resetHeld = false →
    let beacon : Frame := ⟨0xFFFF, s.partStation, 0x34, 0, bytes2 (s.cycle + 1).toNat ++ [s.partState.code, s.haltCause.code]⟩
    (s.timerRunning = false → exec .cycleEvent s = .next s) ∧
    (s.timerRunning = true →
      ∃ v, exec .cycleEvent s = .next v ∧ v.cycle = s.cycle + 1 ∧ v.period = s.params.periodSelect ∧
        v.params = s.params ∧ v.partState = s.partState ∧ v.haltCause = s.haltCause ∧ SameMap s v ∧
        (s.portC.outbound.length < 16 →
          ∃ rest, v.portC.outbound = s.portC.outbound ++ beacon :: rest ∧ ∀ f ∈ rest, f.kind ≠ 0x34) ∧
        (16 ≤ s.portC.outbound.length →
          v.portC.outbound = s.portC.outbound ∧ v.portC.flags.outOverrun = true))

/-- Supervision at a cycle event (R135, R136, R137, R127), whatever place the free order of log entry 5 gives a loss: the
counter of a believed carrier advances by one, every PROBE that is then due is offered, a carrier whose counter reaches
its limit is LOST with its holds frozen and its notice offered, a running timeout counts down, and a carrier out of
service is left alone. That the PROBEs follow the BEACON in slot order is log entry 6. -/
def Obligations.CycleEventSupervises : Prop :=
  ∀ (s : State) (n : Nat), s.pins.resetHeld = false → s.timerRunning = true → Rising s.carriers →
    let c := s.carrier n
    let limit (c : Carrier) := [3, 5, 10, 20, 30, 50, 100, 200].getD c.params.supervision 0
    let due (c : Carrier) : Bool := c.believed && c.silence + 1 = limit c / 2 && 4 ≤ limit c && !c.probeSent
    let probe (c : Carrier) : Frame := ⟨c.station, s.partStation, 0x33, 0,
      bytes2 (s.cycle + 1).toNat ++ [byte (limit c - (c.silence + 1))]⟩
    let probes := (s.carriers.filter (fun e => due e.2)).map (fun e => probe e.2)
    ∃ v, exec .cycleEvent s = .next v ∧
      (s.portC.outbound.length ≤ 16 → ∃ beacon rest, beacon.kind = 0x34 ∧ (∀ f ∈ rest, f.kind ≠ 0x33) ∧
        v.portC.outbound = (s.portC.outbound ++ [beacon] ++ probes ++ rest).take 16) ∧
      (due c = true → (v.carrier n).probeSent = true) ∧
      (c.believed = true → c.silence + 1 = c.silenceLimit → v.portD.outbound.length < 16 →
        noticeOf s ([0x03, byte n] ++ halfBytes c.station ++ [0x01]) ∈ appended .d s v) ∧
      (let d := v.carrier n;
        (c.believed = true → c.silence + 1 < c.silenceLimit → d.silence = c.silence + 1 ∧ d.state = c.state) ∧
        (c.believed = true → c.silence + 1 = c.silenceLimit →
          d.state = .lost ∧ d.lostCause = .silent ∧ d.condition = .silent ∧ d.silence = 0 ∧ d.cutback = none ∧
          v.waitOf n = none ∧ AllFrozen n v) ∧
        (c.believed = false → c.cutback = none → s.waitOf n = none → d = c) ∧
        (∀ k, c.cutback = some k → c.believed = true → c.silence + 1 < c.silenceLimit →
          (1 < k.timeout → d.cutback = some { k with timeout := k.timeout - 1 }) ∧
          (k.timeout ≤ 1 → d.cutback = none)))

/-- The hold-idle counters at a cycle event (R116), and their expiry there (R117, R120), on the state and the wait list that
the event's losses and cutback timeouts leave (R127, R130, R137). The event comes to that state by counting silence,
taking some losses, counting and ending timeouts in slot order, each with its wake events before the next, and taking
further losses; losses left over come last. A counter advances while a waiter wants a section held ahead. At its limit a
cutback begins to the smallest index whose distance meets the need at v1, where that frees a section a waiter wants, and
otherwise the counter starts again. The model's choices: which losses come where, with the waits of the last ones out of
the list all the same (log entry 5), slot order of losses and all expiries after the timeouts (log entry 6), a counter
that stands at the event at which its carrier's own cutback was in flight (log entry 26), and the last clause, where no
index below the limit meets the need and so nothing begins (log entry 17). -/
def Obligations.HoldIdleCountsWhileWanted : Prop :=
  ∀ s : State, s.pins.resetHeld = false → s.timerRunning = true → Rising s.carriers →
    let lossDue (n : Nat) : Bool := (s.carrier n).believed && (s.carrier n).silence + 1 = (s.carrier n).silenceLimit
    ∃ (a b b' x w y v : State) (early middle late : List Nat), exec .cycleEvent s = .next v ∧
      early.Sublist s.slots ∧ middle.Sublist s.slots ∧ late.Sublist s.slots ∧
      (early ++ middle ++ late).Perm (s.slots.filter lossDue) ∧
      SilenceCounted s a ∧ InTurn LossTaken early a b ∧ TimeoutsCounted b b' ∧ InTurn TimeoutTaken s.slots b' x ∧
      InTurn LossTaken middle x w ∧ InTurn LossTaken late y v ∧ y.waits = w.waits ∧
      ∀ n, (s.carrier n).state = .active → lossDue n = false →
        let c := w.carrier n
        let d := v.carrier n
        let waits := w.waits.filter (fun e => e.slot ∉ late)
        let wanted := ∃ e ∈ waits, e.blocker = some n ∧ ∃ r ∈ c.ahead, r.sec = e.wantedSection
        let wants (lo : Nat) := ∃ e ∈ waits, e.blocker = some n ∧ ∃ i r, lo < i ∧ c.route[i]? = some r ∧
          r.sec = e.wantedSection
        let met (l : Nat) := need w c (firstClamp w c) ≤ available w c l
        let running := s.partState = .running ∧ s.params.holdLimit ≠ 0
        let expired := running ∧ s.params.holdLimit ≤ c.holdIdle + 1 ∧ wanted
        c.state = .active ∧
        (((s.carrier n).cutback ≠ none ∨ ¬running) → CutbackKept n w v) ∧
        ((s.carrier n).cutback = none →
          c.cutback = none ∧
          (running → ¬wanted → d.holdIdle = 0 ∧ d.cutback = none) ∧
          (running → c.holdIdle + 1 < s.params.holdLimit → wanted → d.holdIdle = c.holdIdle + 1 ∧ d.cutback = none) ∧
          (∀ target, expired → (c.route.map (fun e => e.sec)).Nodup → c.head ≤ target → target < c.limit → met target →
            (∀ l, c.head ≤ l → l < target → ¬met l) →
            (wants target →
              let frame := cutbackOf w n (c.cutbackNumber + 1) target
              d.cutback = some ⟨c.cutbackNumber + 1, target, s.params.cutbackTimeout, frame⟩ ∧
              d.cutbackNumber = c.cutbackNumber + 1 ∧ d.lastAnswer = some frame ∧ d.holdIdle = 0 ∧
              (v.portC.outbound.length < 16 → frame ∈ appended .c w v ∧ frame ∈ appended .c s v) ∧
              ∀ sec, v.holdStateOf n sec =
                if sec ∈ c.sectionsBetween target c.limit ∧ w.holdsSection n sec = true then some .recalling
                else w.holdStateOf n sec) ∧
            (¬wants target → d.holdIdle = 0 ∧ d.cutback = none)) ∧
          (expired → c.head ≤ c.limit → (∀ l, c.head ≤ l → l < c.limit → ¬met l) → d.holdIdle = 0 ∧ d.cutback = none))

/-- The timer rows of one slot, which act exactly where the counter stands at its point (log entry 4): PROBE (R136, R24),
SILENCE_LIMIT (R137) and HOLD_LIMIT_EXPIRY (R117, R120). The target of an expiry is the smallest index whose distance meets
the need at v1; a cutback down to it begins where it frees a section that a waiter wants of this carrier, and otherwise
the counter starts again. That a target at the limit begins nothing is log entry 17. -/
def Obligations.TimerRowsActAtTheirPoints : Prop :=
  (∀ (slot : Nat) (s : State), s.pins.resetHeld = false →
    let c := s.carrier slot
    let limit := [3, 5, 10, 20, 30, 50, 100, 200].getD c.params.supervision 0
    let probeDue := c.believed = true ∧ c.silence = limit / 2 ∧ 4 ≤ limit ∧ c.probeSent = false
    let lossDue := c.believed = true ∧ c.silence = limit
    (probeDue → exec (.probe slot) s =
      .next (offerOwn .c ⟨c.station, s.partStation, 0x33, 0, bytes2 s.cycle.toNat ++ [byte (limit - c.silence)]⟩
        (s.modifyCarrier slot (fun c => { c with probeSent := true })))) ∧
    (¬probeDue → exec (.probe slot) s = .next s) ∧
    (lossDue → ∃ v, exec (.silenceLimit slot) s = .next v ∧ LeftService slot .lost .silent .silent 0x03 s v) ∧
    (¬lossDue → exec (.silenceLimit slot) s = .next s)) ∧
  ∀ (slot target : Nat) (s : State), s.pins.resetHeld = false →
    let c := s.carrier slot
    let wants (lo : Nat) := ∃ w ∈ s.waits, w.blocker = some slot ∧ ∃ i e, lo < i ∧ c.route[i]? = some e ∧
      e.sec = w.wantedSection
    let met (l : Nat) := need s c (firstClamp s c) ≤ available s c l
    let due := s.partState = .running ∧ c.state = .active ∧ c.cutback = none ∧ s.params.holdLimit ≠ 0 ∧
      s.params.holdLimit ≤ c.holdIdle
    (¬due → exec (.holdLimitExpiry slot) s = .next s) ∧
    (due → (c.route.map (fun e => e.sec)).Nodup → c.head ≤ target → target < c.limit → met target →
      (∀ l, c.head ≤ l → l < target → ¬met l) →
      (wants target → ∃ v, exec (.holdLimitExpiry slot) s = .next v ∧ CutbackSent slot target c.limit s v) ∧
      (¬wants target → exec (.holdLimitExpiry slot) s =
        .next (s.modifyCarrier slot (fun c => { c with holdIdle := 0 })))) ∧
    (due → c.head ≤ c.limit → (∀ l, c.head ≤ l → l < c.limit → ¬met l) →
      exec (.holdLimitExpiry slot) s = .next (s.modifyCarrier slot (fun c => { c with holdIdle := 0 })))

/-! ### The part -/

/-- PARAMS_SET (R164, R165, R166, R115, R93): each parameter is stored in its range, the lookahead depth not below a
carrier's ahead run, the dispatch station not a carrier's; a refused command changes nothing. -/
def Obligations.ParamsSetChecksAndStores : Prop :=
  ∀ (m : Mgmt) (s : State), MgmtReady 0x10 m s → m.params.length = 3 →
    let code := numAt m.params 0
    let v := numAt2 m.params 1
    let station := halfAt m.params 1
    let u := dropFront .d s
    let refused (st : Status) := exec (.paramsSet m) s = .next (answer m st [] u)
    let stored (p : PartParams) := exec (.paramsSet m) s = .next (answer m .ok [] { u with params := p })
    let tooFar := ∃ e ∈ s.carriers, v < e.2.limit - e.2.head
    ((code = 0 ∨ 6 < code) → refused .badValue) ∧
    (code = 1 → (7 < v → refused .badValue) ∧ (v ≤ 7 → stored { s.params with periodSelect := v })) ∧
    (code = 2 → (1000 < v → refused .badValue) ∧ (v ≤ 1000 → stored { s.params with margin := v })) ∧
    (code = 3 → ((v = 0 ∨ 8 < v) → refused .badValue) ∧ (1 ≤ v → v ≤ 8 → tooFar → refused .inUse) ∧
      (1 ≤ v → v ≤ 8 → ¬tooFar → stored { s.params with lookahead := v })) ∧
    (code = 4 → (255 < v → refused .badValue) ∧ (1 ≤ v → v ≤ 255 → stored { s.params with holdLimit := v }) ∧
      (v = 0 → ∃ t, exec (.paramsSet m) s = .next (answer m .ok [] t) ∧ t.params = { s.params with holdLimit := 0 } ∧
        (∀ n, t.carrier n = { s.carrier n with holdIdle := 0 }) ∧ t.holds = s.holds ∧ t.waits = s.waits ∧
        t.occupancy = s.occupancy ∧ t.portC = s.portC ∧ t.portD = u.portD ∧ t.cycle = s.cycle ∧
        t.timerRunning = s.timerRunning ∧ t.period = s.period ∧ t.partState = s.partState ∧ t.haltCause = s.haltCause ∧
        SameMap s t ∧ SameBoard s t)) ∧
    (code = 5 → ((v = 0 ∨ 63 < v) → refused .badValue) ∧
      (1 ≤ v → v ≤ 63 → stored { s.params with cutbackTimeout := v })) ∧
    (code = 6 →
      ((station = 0 ∨ station = 0xFFFF ∨ station = s.partStation) → refused .badValue) ∧
      (station ≠ 0 → station ≠ 0xFFFF → station ≠ s.partStation →
        ((s.slotOf station).isSome = true → refused .inUse) ∧
        (s.slotOf station = none → stored { s.params with dispatchStation := station })))

/-- START (R140) and HALT (R141, R143) in every part state. -/
def Obligations.StartAndHaltByPartState : Prop :=
  ∀ (m : Mgmt) (s : State), m.params = [] →
    let u := dropFront .d s
    (MgmtReady 0x11 m s →
      (s.partState = .unconfigured → exec (.start m) s = .next (answer m .ok []
        { u with partState := .running, haltCause := .none, timerRunning := true, period := s.params.periodSelect })) ∧
      (s.partState = .halted → exec (.start m) s = .next (answer m .ok []
        { u with partState := .running, haltCause := .none })) ∧
      (s.partState = .running → exec (.start m) s = .next (answer m .ok [] u))) ∧
    (MgmtReady 0x12 m s →
      (s.partState = .unconfigured → exec (.halt m) s = .next (answer m .wrongState [] u)) ∧
      (s.partState = .halted → exec (.halt m) s = .next (answer m .ok [] u)) ∧
      (s.partState = .running → exec (.halt m) s = .next (answer m .ok []
        (offerOwn .d (noticeOf s ([0x0B, 0x01] ++ bytes2 s.cycle.toNat ++ [0, 0, 0, 0, 0]))
          { u with partState := .halted, haltCause := .command }))))

/-- SECTION_QUERY (R169, R158) and PART_QUERY (R167, R168, R153): the section's whole record, holders and conflicts; one
RESULT up to 35 wait entries and two above, the flags shown and then cleared. -/
def Obligations.QueriesReportAndClearFlags : Prop :=
  ∀ (m : Mgmt) (s : State),
    let n := numAt2 m.params 0
    let u := dropFront .d s
    let cleared := { u with portD := { u.portD with flags := .clear }, portC := { u.portC with flags := .clear } }
    let entries (l : List WaitEntry) := (l.map (fun w => [byte w.slot, byte w.wantedIndex] ++ bytes2 w.wantedSection ++
      [w.reason.code, byte (w.blocker.getD 0)])).flatten
    let first (count : Byte) (shown : List WaitEntry) : List Byte :=
      [1, count, s.partState.code, s.haltCause.code] ++ bytes2 s.cycle.toNat ++ halfBytes s.partStation ++
        [byte s.rateStrap.toNat, byte s.params.periodSelect] ++ bytes2 s.params.margin ++
        [byte s.params.lookahead, byte s.params.holdLimit, byte s.params.cutbackTimeout] ++
        halfBytes s.params.dispatchStation ++ bytes2 s.freeRecords.length ++
        [byte s.carriers.length, s.portD.flags.toByte, s.portC.flags.toByte, byte s.waits.length, byte shown.length] ++
        entries shown
    (MgmtReady 0x0E m s → m.params.length = 2 →
      ((n = 0 ∨ 1023 < n) → exec (.sectionQuery m) s = .next (answer m .badValue [] u)) ∧
      (1 ≤ n → n ≤ 1023 → lookup s.sections n = none → exec (.sectionQuery m) s = .next (answer m .ok [0] u)) ∧
      (∀ e, 1 ≤ n → n ≤ 1023 → lookup s.sections n = some e →
        exec (.sectionQuery m) s = .next (answer m .ok ([1] ++ e.data.bytes ++
          [byte e.isOpen.toNat, ((s.hold n).direction.map Direction.code).getD 0,
            byte (if e.data.zone = 0 then 0 else s.occupied e.data.zone), byte (s.holders n).length] ++
          ((s.holders n).map (fun h => [byte h.slot, h.state.code])).flatten ++ [byte e.chain.length] ++
          (e.chain.map (fun r => bytes2 r.other ++ [r.condition.code])).flatten) u))) ∧
    (MgmtReady 0x0F m s → m.params = [] →
      (s.waits.length ≤ 35 → exec (.partQuery m) s = .next (answer m .ok (first 1 s.waits) cleared)) ∧
      (35 < s.waits.length → exec (.partQuery m) s =
        .next (answer m .ok ([2, 2, byte (s.waits.length - 35)] ++ entries (s.waits.drop 35))
          (answer m .ok (first 2 (s.waits.take 35)) cleared))))

/-- RESET TRAFFIC (R173, R143, R43) ends all traffic, keeps the floor and halts the part with cause RESET; RESET FULL
(R174) gives power-on values throughout, but for the straps as read and the frame on each line (log entry 9). A RESET
with another mode byte (R172) or another length (R161) resets nothing. -/
def Obligations.ResetsEmptyThePart : Prop :=
  (∀ (m : Mgmt) (rest : List Frame) (s : State), s.pins.resetHeld = false →
    s.portD.inbound = mgmtFrame m 0x13 s.partStation :: rest → m.params ≠ [0x01] → m.params ≠ [0x02] →
    exec .portDClassify s = .next (answer m .badValue [] (dropFront .d s))) ∧
  ∀ (r : ResetOrder) (s : State),
    let m : Mgmt := ⟨r.source, r.sequence, r.tag, []⟩
    let u := dropFront .d s
    (MgmtReady 0x13 { m with params := [0x01] } s →
      (s.partState = .unconfigured → exec (.resetTraffic r) s = .next (answer m .wrongState [] u)) ∧
      (s.partState ≠ .unconfigured → exec (.resetTraffic r) s = .next (answer m .ok []
        (offerOwn .d (noticeOf s ([0x0B, 0x03] ++ bytes2 s.cycle.toNat ++ [0, 0, 0, 0, 0]))
          { u with
            waits := []
            holds := []
            occupancy := []
            carriers := []
            partState := .halted
            haltCause := .reset })))) ∧
    (MgmtReady 0x13 { m with params := [0x02] } s →
      ∃ v, exec (.resetFull r) s = .next (answer m .ok [] v) ∧
        (∀ n, lookup v.sections n = none) ∧ (∀ z, lookup v.zones z = none) ∧ v.freeRecords = List.range' 1 2048 ∧
        (∀ n, v.hold n = ⟨[], none⟩) ∧ (∀ z, v.occupied z = 0) ∧ (∀ n, v.carrier n = .vacant) ∧ v.waits = [] ∧
        v.cycle = 0 ∧ v.timerRunning = false ∧ v.params = ⟨2, 300, 6, 20, 5, 0x0001⟩ ∧
        v.partState = .unconfigured ∧ v.haltCause = .none ∧ v.partStation = s.partStation ∧ v.rateStrap = s.rateStrap ∧
        v.pins = s.pins ∧ v.pending = s.pending ∧
        (∀ p, v.port p = ⟨.hunting, [], (s.port p).outbound.take 1,
          ⟨false, false, false, false, false, false, false⟩⟩))

/-! ### What every step keeps -/

/-- The sparse tables stay in canonical form (log entry 13), the port queues within their places (R145, R148, R152), and
part state, halt cause and timer in step (R131, R134, R139, R46). -/
def Obligations.StepKeepsTablesAndPartState : Prop :=
  ∀ s t : State, step s = .next t →
    (s.TablesCanonical → t.TablesCanonical) ∧ ((∀ p, (s.port p).WithinPlaces) → ∀ p, (t.port p).WithinPlaces) ∧
      (s.PartCoherent → t.PartCoherent)

/-- The law of R59: no section ever has more holders than its capacity, and a section has a direction exactly while it is
held. -/
def Obligations.StepKeepsHoldsLawful : Prop := ∀ s t : State, step s = .next t → s.HoldsLawful → t.HoldsLawful

/-- The conflict pool never loses or doubles a record, and the relation stays symmetric (R14, R15). -/
def Obligations.StepKeepsPoolLawful : Prop := ∀ s t : State, step s = .next t → s.PoolLawful → t.PoolLawful

/-- Slots, stations, parameters, positions, exchange fields, counters, cutback records and the wait list stay within R21 to
R23, R25, R26, R28, R95, R100, R114, R115 and R164. -/
def Obligations.StepKeepsTrafficLawful : Prop := ∀ s t : State, step s = .next t → s.TrafficLawful → t.TrafficLawful

/-- The law of rights (R16, R25, R26, R31, R59, R114): who holds what, in which state, in which zone, and against whom. -/
def Obligations.StepKeepsRightsLawful : Prop := ∀ s t : State, step s = .next t → s.RightsLawful → t.RightsLawful

/-- The state after reset meets every one of these (R1, R14, R21, R59, R95, R131, R139, R145). -/
def Obligations.ResetMeetsEveryInvariant : Prop :=
  State.reset.TablesCanonical ∧ (∀ p, (State.reset.port p).WithinPlaces) ∧ State.reset.HoldsLawful ∧
    State.reset.PartCoherent ∧ State.reset.PoolLawful ∧ State.reset.TrafficLawful ∧ State.reset.RightsLawful

/-- Frames over the whole table: the Track Map, the parameters, the cycle number and the part state are written by the
commands the spec gives for each and by no other; line events and the two queries touch no traffic. -/
def Obligations.OnlyNamedCommandsWrite : Prop :=
  ∀ (i : Instr) (s t : State), exec i s = .next t →
    (writesMap i = false → SameMap s t) ∧ (writesParams i = false → t.params = s.params) ∧
    (writesCycle i = false → t.cycle = s.cycle) ∧
    (writesPartState i = false → t.partState = s.partState ∧ t.haltCause = s.haltCause) ∧
    (((∃ p b, i = .syncByte p b) ∨ (∃ p bs, i = .frameReceive p bs) ∨ (∃ p, i = .frameTransmitEnd p) ∨
      (∃ m, i = .sectionQuery m) ∨ ∃ m, i = .partQuery m) → PortsOnly s t)

end
end

