-- ==== Sys2Proof/Laws/State.lean ====
section
/-! SUPPORT. What each small update of the state leaves unchanged, field by field. -/

namespace Sys2Proof.Laws

open Sys2Proof.Machine

variable (s : State)

/-! ### setPort -/

@[simp] theorem setPort_pending (p : PortId) (x : Port) : (s.setPort p x).pending = s.pending := by cases p <;> rfl
@[simp] theorem setPort_pins (p : PortId) (x : Port) : (s.setPort p x).pins = s.pins := by cases p <;> rfl
@[simp] theorem setPort_stationStrap (p : PortId) (x : Port) :
    (s.setPort p x).stationStrap = s.stationStrap := by cases p <;> rfl
@[simp] theorem setPort_rateStrap (p : PortId) (x : Port) :
    (s.setPort p x).rateStrap = s.rateStrap := by cases p <;> rfl
@[simp] theorem setPort_sections (p : PortId) (x : Port) : (s.setPort p x).sections = s.sections := by cases p <;> rfl
@[simp] theorem setPort_zones (p : PortId) (x : Port) : (s.setPort p x).zones = s.zones := by cases p <;> rfl
@[simp] theorem setPort_freeRecords (p : PortId) (x : Port) :
    (s.setPort p x).freeRecords = s.freeRecords := by cases p <;> rfl
@[simp] theorem setPort_holds (p : PortId) (x : Port) : (s.setPort p x).holds = s.holds := by cases p <;> rfl
@[simp] theorem setPort_occupancy (p : PortId) (x : Port) :
    (s.setPort p x).occupancy = s.occupancy := by cases p <;> rfl
@[simp] theorem setPort_carriers (p : PortId) (x : Port) : (s.setPort p x).carriers = s.carriers := by cases p <;> rfl
@[simp] theorem setPort_waits (p : PortId) (x : Port) : (s.setPort p x).waits = s.waits := by cases p <;> rfl
@[simp] theorem setPort_cycle (p : PortId) (x : Port) : (s.setPort p x).cycle = s.cycle := by cases p <;> rfl
@[simp] theorem setPort_timerRunning (p : PortId) (x : Port) :
    (s.setPort p x).timerRunning = s.timerRunning := by cases p <;> rfl
@[simp] theorem setPort_period (p : PortId) (x : Port) : (s.setPort p x).period = s.period := by cases p <;> rfl
@[simp] theorem setPort_params (p : PortId) (x : Port) : (s.setPort p x).params = s.params := by cases p <;> rfl
@[simp] theorem setPort_partState (p : PortId) (x : Port) :
    (s.setPort p x).partState = s.partState := by cases p <;> rfl
@[simp] theorem setPort_haltCause (p : PortId) (x : Port) :
    (s.setPort p x).haltCause = s.haltCause := by cases p <;> rfl
@[simp] theorem setPort_freeTick (p : PortId) (x : Port) : (s.setPort p x).freeTick = s.freeTick := by cases p <;> rfl

/-! ### setRx -/

@[simp] theorem setRx_pending (p : PortId) (r : RxState) : (s.setRx p r).pending = s.pending := by cases p <;> rfl
@[simp] theorem setRx_pins (p : PortId) (r : RxState) : (s.setRx p r).pins = s.pins := by cases p <;> rfl
@[simp] theorem setRx_stationStrap (p : PortId) (r : RxState) :
    (s.setRx p r).stationStrap = s.stationStrap := by cases p <;> rfl
@[simp] theorem setRx_rateStrap (p : PortId) (r : RxState) :
    (s.setRx p r).rateStrap = s.rateStrap := by cases p <;> rfl
@[simp] theorem setRx_sections (p : PortId) (r : RxState) : (s.setRx p r).sections = s.sections := by cases p <;> rfl
@[simp] theorem setRx_zones (p : PortId) (r : RxState) : (s.setRx p r).zones = s.zones := by cases p <;> rfl
@[simp] theorem setRx_freeRecords (p : PortId) (r : RxState) :
    (s.setRx p r).freeRecords = s.freeRecords := by cases p <;> rfl
@[simp] theorem setRx_holds (p : PortId) (r : RxState) : (s.setRx p r).holds = s.holds := by cases p <;> rfl
@[simp] theorem setRx_occupancy (p : PortId) (r : RxState) :
    (s.setRx p r).occupancy = s.occupancy := by cases p <;> rfl
@[simp] theorem setRx_carriers (p : PortId) (r : RxState) : (s.setRx p r).carriers = s.carriers := by cases p <;> rfl
@[simp] theorem setRx_waits (p : PortId) (r : RxState) : (s.setRx p r).waits = s.waits := by cases p <;> rfl
@[simp] theorem setRx_cycle (p : PortId) (r : RxState) : (s.setRx p r).cycle = s.cycle := by cases p <;> rfl
@[simp] theorem setRx_timerRunning (p : PortId) (r : RxState) :
    (s.setRx p r).timerRunning = s.timerRunning := by cases p <;> rfl
@[simp] theorem setRx_period (p : PortId) (r : RxState) : (s.setRx p r).period = s.period := by cases p <;> rfl
@[simp] theorem setRx_params (p : PortId) (r : RxState) : (s.setRx p r).params = s.params := by cases p <;> rfl
@[simp] theorem setRx_partState (p : PortId) (r : RxState) :
    (s.setRx p r).partState = s.partState := by cases p <;> rfl
@[simp] theorem setRx_haltCause (p : PortId) (r : RxState) :
    (s.setRx p r).haltCause = s.haltCause := by cases p <;> rfl
@[simp] theorem setRx_freeTick (p : PortId) (r : RxState) : (s.setRx p r).freeTick = s.freeTick := by cases p <;> rfl

/-! ### raise -/

@[simp] theorem raise_pending (p : PortId) (f : PortFlag) : (s.raise p f).pending = s.pending := by cases p <;> rfl
@[simp] theorem raise_pins (p : PortId) (f : PortFlag) : (s.raise p f).pins = s.pins := by cases p <;> rfl
@[simp] theorem raise_stationStrap (p : PortId) (f : PortFlag) :
    (s.raise p f).stationStrap = s.stationStrap := by cases p <;> rfl
@[simp] theorem raise_rateStrap (p : PortId) (f : PortFlag) :
    (s.raise p f).rateStrap = s.rateStrap := by cases p <;> rfl
@[simp] theorem raise_sections (p : PortId) (f : PortFlag) : (s.raise p f).sections = s.sections := by cases p <;> rfl
@[simp] theorem raise_zones (p : PortId) (f : PortFlag) : (s.raise p f).zones = s.zones := by cases p <;> rfl
@[simp] theorem raise_freeRecords (p : PortId) (f : PortFlag) :
    (s.raise p f).freeRecords = s.freeRecords := by cases p <;> rfl
@[simp] theorem raise_holds (p : PortId) (f : PortFlag) : (s.raise p f).holds = s.holds := by cases p <;> rfl
@[simp] theorem raise_occupancy (p : PortId) (f : PortFlag) :
    (s.raise p f).occupancy = s.occupancy := by cases p <;> rfl
@[simp] theorem raise_carriers (p : PortId) (f : PortFlag) : (s.raise p f).carriers = s.carriers := by cases p <;> rfl
@[simp] theorem raise_waits (p : PortId) (f : PortFlag) : (s.raise p f).waits = s.waits := by cases p <;> rfl
@[simp] theorem raise_cycle (p : PortId) (f : PortFlag) : (s.raise p f).cycle = s.cycle := by cases p <;> rfl
@[simp] theorem raise_timerRunning (p : PortId) (f : PortFlag) :
    (s.raise p f).timerRunning = s.timerRunning := by cases p <;> rfl
@[simp] theorem raise_period (p : PortId) (f : PortFlag) : (s.raise p f).period = s.period := by cases p <;> rfl
@[simp] theorem raise_params (p : PortId) (f : PortFlag) : (s.raise p f).params = s.params := by cases p <;> rfl
@[simp] theorem raise_partState (p : PortId) (f : PortFlag) :
    (s.raise p f).partState = s.partState := by cases p <;> rfl
@[simp] theorem raise_haltCause (p : PortId) (f : PortFlag) :
    (s.raise p f).haltCause = s.haltCause := by cases p <;> rfl
@[simp] theorem raise_freeTick (p : PortId) (f : PortFlag) : (s.raise p f).freeTick = s.freeTick := by cases p <;> rfl

/-! ### dropFront -/

@[simp] theorem dropFront_pending (p : PortId) : (dropFront p s).pending = s.pending := by cases p <;> rfl
@[simp] theorem dropFront_pins (p : PortId) : (dropFront p s).pins = s.pins := by cases p <;> rfl
@[simp] theorem dropFront_stationStrap (p : PortId) :
    (dropFront p s).stationStrap = s.stationStrap := by cases p <;> rfl
@[simp] theorem dropFront_rateStrap (p : PortId) : (dropFront p s).rateStrap = s.rateStrap := by cases p <;> rfl
@[simp] theorem dropFront_sections (p : PortId) : (dropFront p s).sections = s.sections := by cases p <;> rfl
@[simp] theorem dropFront_zones (p : PortId) : (dropFront p s).zones = s.zones := by cases p <;> rfl
@[simp] theorem dropFront_freeRecords (p : PortId) : (dropFront p s).freeRecords = s.freeRecords := by cases p <;> rfl
@[simp] theorem dropFront_holds (p : PortId) : (dropFront p s).holds = s.holds := by cases p <;> rfl
@[simp] theorem dropFront_occupancy (p : PortId) : (dropFront p s).occupancy = s.occupancy := by cases p <;> rfl
@[simp] theorem dropFront_carriers (p : PortId) : (dropFront p s).carriers = s.carriers := by cases p <;> rfl
@[simp] theorem dropFront_waits (p : PortId) : (dropFront p s).waits = s.waits := by cases p <;> rfl
@[simp] theorem dropFront_cycle (p : PortId) : (dropFront p s).cycle = s.cycle := by cases p <;> rfl
@[simp] theorem dropFront_timerRunning (p : PortId) :
    (dropFront p s).timerRunning = s.timerRunning := by cases p <;> rfl
@[simp] theorem dropFront_period (p : PortId) : (dropFront p s).period = s.period := by cases p <;> rfl
@[simp] theorem dropFront_params (p : PortId) : (dropFront p s).params = s.params := by cases p <;> rfl
@[simp] theorem dropFront_partState (p : PortId) : (dropFront p s).partState = s.partState := by cases p <;> rfl
@[simp] theorem dropFront_haltCause (p : PortId) : (dropFront p s).haltCause = s.haltCause := by cases p <;> rfl
@[simp] theorem dropFront_freeTick (p : PortId) : (dropFront p s).freeTick = s.freeTick := by cases p <;> rfl

/-! ### putCarrier -/

@[simp] theorem putCarrier_pending (n : Nat) (c : Carrier) : (s.putCarrier n c).pending = s.pending := rfl
@[simp] theorem putCarrier_pins (n : Nat) (c : Carrier) : (s.putCarrier n c).pins = s.pins := rfl
@[simp] theorem putCarrier_stationStrap (n : Nat) (c : Carrier) :
    (s.putCarrier n c).stationStrap = s.stationStrap := rfl
@[simp] theorem putCarrier_rateStrap (n : Nat) (c : Carrier) : (s.putCarrier n c).rateStrap = s.rateStrap := rfl
@[simp] theorem putCarrier_portD (n : Nat) (c : Carrier) : (s.putCarrier n c).portD = s.portD := rfl
@[simp] theorem putCarrier_portC (n : Nat) (c : Carrier) : (s.putCarrier n c).portC = s.portC := rfl
@[simp] theorem putCarrier_sections (n : Nat) (c : Carrier) : (s.putCarrier n c).sections = s.sections := rfl
@[simp] theorem putCarrier_zones (n : Nat) (c : Carrier) : (s.putCarrier n c).zones = s.zones := rfl
@[simp] theorem putCarrier_freeRecords (n : Nat) (c : Carrier) : (s.putCarrier n c).freeRecords = s.freeRecords := rfl
@[simp] theorem putCarrier_holds (n : Nat) (c : Carrier) : (s.putCarrier n c).holds = s.holds := rfl
@[simp] theorem putCarrier_occupancy (n : Nat) (c : Carrier) : (s.putCarrier n c).occupancy = s.occupancy := rfl
@[simp] theorem putCarrier_waits (n : Nat) (c : Carrier) : (s.putCarrier n c).waits = s.waits := rfl
@[simp] theorem putCarrier_cycle (n : Nat) (c : Carrier) : (s.putCarrier n c).cycle = s.cycle := rfl
@[simp] theorem putCarrier_timerRunning (n : Nat) (c : Carrier) :
    (s.putCarrier n c).timerRunning = s.timerRunning := rfl
@[simp] theorem putCarrier_period (n : Nat) (c : Carrier) : (s.putCarrier n c).period = s.period := rfl
@[simp] theorem putCarrier_params (n : Nat) (c : Carrier) : (s.putCarrier n c).params = s.params := rfl
@[simp] theorem putCarrier_partState (n : Nat) (c : Carrier) : (s.putCarrier n c).partState = s.partState := rfl
@[simp] theorem putCarrier_haltCause (n : Nat) (c : Carrier) : (s.putCarrier n c).haltCause = s.haltCause := rfl
@[simp] theorem putCarrier_freeTick (n : Nat) (c : Carrier) : (s.putCarrier n c).freeTick = s.freeTick := rfl

/-! ### vacate -/

@[simp] theorem vacate_pending (n : Nat) : (s.vacate n).pending = s.pending := rfl
@[simp] theorem vacate_pins (n : Nat) : (s.vacate n).pins = s.pins := rfl
@[simp] theorem vacate_stationStrap (n : Nat) : (s.vacate n).stationStrap = s.stationStrap := rfl
@[simp] theorem vacate_rateStrap (n : Nat) : (s.vacate n).rateStrap = s.rateStrap := rfl
@[simp] theorem vacate_portD (n : Nat) : (s.vacate n).portD = s.portD := rfl
@[simp] theorem vacate_portC (n : Nat) : (s.vacate n).portC = s.portC := rfl
@[simp] theorem vacate_sections (n : Nat) : (s.vacate n).sections = s.sections := rfl
@[simp] theorem vacate_zones (n : Nat) : (s.vacate n).zones = s.zones := rfl
@[simp] theorem vacate_freeRecords (n : Nat) : (s.vacate n).freeRecords = s.freeRecords := rfl
@[simp] theorem vacate_holds (n : Nat) : (s.vacate n).holds = s.holds := rfl
@[simp] theorem vacate_occupancy (n : Nat) : (s.vacate n).occupancy = s.occupancy := rfl
@[simp] theorem vacate_waits (n : Nat) : (s.vacate n).waits = s.waits := rfl
@[simp] theorem vacate_cycle (n : Nat) : (s.vacate n).cycle = s.cycle := rfl
@[simp] theorem vacate_timerRunning (n : Nat) : (s.vacate n).timerRunning = s.timerRunning := rfl
@[simp] theorem vacate_period (n : Nat) : (s.vacate n).period = s.period := rfl
@[simp] theorem vacate_params (n : Nat) : (s.vacate n).params = s.params := rfl
@[simp] theorem vacate_partState (n : Nat) : (s.vacate n).partState = s.partState := rfl
@[simp] theorem vacate_haltCause (n : Nat) : (s.vacate n).haltCause = s.haltCause := rfl
@[simp] theorem vacate_freeTick (n : Nat) : (s.vacate n).freeTick = s.freeTick := rfl

/-! ### setParams -/

@[simp] theorem setParams_pending (x : PartParams) : (s.setParams x).pending = s.pending := rfl
@[simp] theorem setParams_pins (x : PartParams) : (s.setParams x).pins = s.pins := rfl
@[simp] theorem setParams_stationStrap (x : PartParams) : (s.setParams x).stationStrap = s.stationStrap := rfl
@[simp] theorem setParams_rateStrap (x : PartParams) : (s.setParams x).rateStrap = s.rateStrap := rfl
@[simp] theorem setParams_portD (x : PartParams) : (s.setParams x).portD = s.portD := rfl
@[simp] theorem setParams_portC (x : PartParams) : (s.setParams x).portC = s.portC := rfl
@[simp] theorem setParams_sections (x : PartParams) : (s.setParams x).sections = s.sections := rfl
@[simp] theorem setParams_zones (x : PartParams) : (s.setParams x).zones = s.zones := rfl
@[simp] theorem setParams_freeRecords (x : PartParams) : (s.setParams x).freeRecords = s.freeRecords := rfl
@[simp] theorem setParams_holds (x : PartParams) : (s.setParams x).holds = s.holds := rfl
@[simp] theorem setParams_occupancy (x : PartParams) : (s.setParams x).occupancy = s.occupancy := rfl
@[simp] theorem setParams_carriers (x : PartParams) : (s.setParams x).carriers = s.carriers := rfl
@[simp] theorem setParams_waits (x : PartParams) : (s.setParams x).waits = s.waits := rfl
@[simp] theorem setParams_cycle (x : PartParams) : (s.setParams x).cycle = s.cycle := rfl
@[simp] theorem setParams_timerRunning (x : PartParams) : (s.setParams x).timerRunning = s.timerRunning := rfl
@[simp] theorem setParams_period (x : PartParams) : (s.setParams x).period = s.period := rfl
@[simp] theorem setParams_partState (x : PartParams) : (s.setParams x).partState = s.partState := rfl
@[simp] theorem setParams_haltCause (x : PartParams) : (s.setParams x).haltCause = s.haltCause := rfl
@[simp] theorem setParams_freeTick (x : PartParams) : (s.setParams x).freeTick = s.freeTick := rfl

/-! ### modifyCarrier -/

@[simp] theorem modifyCarrier_pending (n : Nat) (f : Carrier → Carrier) :
    (s.modifyCarrier n f).pending = s.pending := by unfold State.modifyCarrier; split <;> rfl
@[simp] theorem modifyCarrier_pins (n : Nat) (f : Carrier → Carrier) :
    (s.modifyCarrier n f).pins = s.pins := by unfold State.modifyCarrier; split <;> rfl
@[simp] theorem modifyCarrier_stationStrap (n : Nat) (f : Carrier → Carrier) :
    (s.modifyCarrier n f).stationStrap = s.stationStrap := by unfold State.modifyCarrier; split <;> rfl
@[simp] theorem modifyCarrier_rateStrap (n : Nat) (f : Carrier → Carrier) :
    (s.modifyCarrier n f).rateStrap = s.rateStrap := by unfold State.modifyCarrier; split <;> rfl
@[simp] theorem modifyCarrier_portD (n : Nat) (f : Carrier → Carrier) :
    (s.modifyCarrier n f).portD = s.portD := by unfold State.modifyCarrier; split <;> rfl
@[simp] theorem modifyCarrier_portC (n : Nat) (f : Carrier → Carrier) :
    (s.modifyCarrier n f).portC = s.portC := by unfold State.modifyCarrier; split <;> rfl
@[simp] theorem modifyCarrier_sections (n : Nat) (f : Carrier → Carrier) :
    (s.modifyCarrier n f).sections = s.sections := by unfold State.modifyCarrier; split <;> rfl
@[simp] theorem modifyCarrier_zones (n : Nat) (f : Carrier → Carrier) :
    (s.modifyCarrier n f).zones = s.zones := by unfold State.modifyCarrier; split <;> rfl
@[simp] theorem modifyCarrier_freeRecords (n : Nat) (f : Carrier → Carrier) :
    (s.modifyCarrier n f).freeRecords = s.freeRecords := by unfold State.modifyCarrier; split <;> rfl
@[simp] theorem modifyCarrier_holds (n : Nat) (f : Carrier → Carrier) :
    (s.modifyCarrier n f).holds = s.holds := by unfold State.modifyCarrier; split <;> rfl
@[simp] theorem modifyCarrier_occupancy (n : Nat) (f : Carrier → Carrier) :
    (s.modifyCarrier n f).occupancy = s.occupancy := by unfold State.modifyCarrier; split <;> rfl
@[simp] theorem modifyCarrier_waits (n : Nat) (f : Carrier → Carrier) :
    (s.modifyCarrier n f).waits = s.waits := by unfold State.modifyCarrier; split <;> rfl
@[simp] theorem modifyCarrier_cycle (n : Nat) (f : Carrier → Carrier) :
    (s.modifyCarrier n f).cycle = s.cycle := by unfold State.modifyCarrier; split <;> rfl
@[simp] theorem modifyCarrier_timerRunning (n : Nat) (f : Carrier → Carrier) :
    (s.modifyCarrier n f).timerRunning = s.timerRunning := by unfold State.modifyCarrier; split <;> rfl
@[simp] theorem modifyCarrier_period (n : Nat) (f : Carrier → Carrier) :
    (s.modifyCarrier n f).period = s.period := by unfold State.modifyCarrier; split <;> rfl
@[simp] theorem modifyCarrier_params (n : Nat) (f : Carrier → Carrier) :
    (s.modifyCarrier n f).params = s.params := by unfold State.modifyCarrier; split <;> rfl
@[simp] theorem modifyCarrier_partState (n : Nat) (f : Carrier → Carrier) :
    (s.modifyCarrier n f).partState = s.partState := by unfold State.modifyCarrier; split <;> rfl
@[simp] theorem modifyCarrier_haltCause (n : Nat) (f : Carrier → Carrier) :
    (s.modifyCarrier n f).haltCause = s.haltCause := by unfold State.modifyCarrier; split <;> rfl
@[simp] theorem modifyCarrier_freeTick (n : Nat) (f : Carrier → Carrier) :
    (s.modifyCarrier n f).freeTick = s.freeTick := by unfold State.modifyCarrier; split <;> rfl

/-! ### setHold -/

@[simp] theorem setHold_pending (n : Nat) (h : HoldRecord) :
    (s.setHold n h).pending = s.pending := by unfold State.setHold; split <;> rfl
@[simp] theorem setHold_pins (n : Nat) (h : HoldRecord) :
    (s.setHold n h).pins = s.pins := by unfold State.setHold; split <;> rfl
@[simp] theorem setHold_stationStrap (n : Nat) (h : HoldRecord) :
    (s.setHold n h).stationStrap = s.stationStrap := by unfold State.setHold; split <;> rfl
@[simp] theorem setHold_rateStrap (n : Nat) (h : HoldRecord) :
    (s.setHold n h).rateStrap = s.rateStrap := by unfold State.setHold; split <;> rfl
@[simp] theorem setHold_portD (n : Nat) (h : HoldRecord) :
    (s.setHold n h).portD = s.portD := by unfold State.setHold; split <;> rfl
@[simp] theorem setHold_portC (n : Nat) (h : HoldRecord) :
    (s.setHold n h).portC = s.portC := by unfold State.setHold; split <;> rfl
@[simp] theorem setHold_sections (n : Nat) (h : HoldRecord) :
    (s.setHold n h).sections = s.sections := by unfold State.setHold; split <;> rfl
@[simp] theorem setHold_zones (n : Nat) (h : HoldRecord) :
    (s.setHold n h).zones = s.zones := by unfold State.setHold; split <;> rfl
@[simp] theorem setHold_freeRecords (n : Nat) (h : HoldRecord) :
    (s.setHold n h).freeRecords = s.freeRecords := by unfold State.setHold; split <;> rfl
@[simp] theorem setHold_occupancy (n : Nat) (h : HoldRecord) :
    (s.setHold n h).occupancy = s.occupancy := by unfold State.setHold; split <;> rfl
@[simp] theorem setHold_carriers (n : Nat) (h : HoldRecord) :
    (s.setHold n h).carriers = s.carriers := by unfold State.setHold; split <;> rfl
@[simp] theorem setHold_waits (n : Nat) (h : HoldRecord) :
    (s.setHold n h).waits = s.waits := by unfold State.setHold; split <;> rfl
@[simp] theorem setHold_cycle (n : Nat) (h : HoldRecord) :
    (s.setHold n h).cycle = s.cycle := by unfold State.setHold; split <;> rfl
@[simp] theorem setHold_timerRunning (n : Nat) (h : HoldRecord) :
    (s.setHold n h).timerRunning = s.timerRunning := by unfold State.setHold; split <;> rfl
@[simp] theorem setHold_period (n : Nat) (h : HoldRecord) :
    (s.setHold n h).period = s.period := by unfold State.setHold; split <;> rfl
@[simp] theorem setHold_params (n : Nat) (h : HoldRecord) :
    (s.setHold n h).params = s.params := by unfold State.setHold; split <;> rfl
@[simp] theorem setHold_partState (n : Nat) (h : HoldRecord) :
    (s.setHold n h).partState = s.partState := by unfold State.setHold; split <;> rfl
@[simp] theorem setHold_haltCause (n : Nat) (h : HoldRecord) :
    (s.setHold n h).haltCause = s.haltCause := by unfold State.setHold; split <;> rfl
@[simp] theorem setHold_freeTick (n : Nat) (h : HoldRecord) :
    (s.setHold n h).freeTick = s.freeTick := by unfold State.setHold; split <;> rfl

/-! ### setOccupied -/

@[simp] theorem setOccupied_pending (z n : Nat) :
    (s.setOccupied z n).pending = s.pending := by unfold State.setOccupied; split <;> rfl
@[simp] theorem setOccupied_pins (z n : Nat) :
    (s.setOccupied z n).pins = s.pins := by unfold State.setOccupied; split <;> rfl
@[simp] theorem setOccupied_stationStrap (z n : Nat) :
    (s.setOccupied z n).stationStrap = s.stationStrap := by unfold State.setOccupied; split <;> rfl
@[simp] theorem setOccupied_rateStrap (z n : Nat) :
    (s.setOccupied z n).rateStrap = s.rateStrap := by unfold State.setOccupied; split <;> rfl
@[simp] theorem setOccupied_portD (z n : Nat) :
    (s.setOccupied z n).portD = s.portD := by unfold State.setOccupied; split <;> rfl
@[simp] theorem setOccupied_portC (z n : Nat) :
    (s.setOccupied z n).portC = s.portC := by unfold State.setOccupied; split <;> rfl
@[simp] theorem setOccupied_sections (z n : Nat) :
    (s.setOccupied z n).sections = s.sections := by unfold State.setOccupied; split <;> rfl
@[simp] theorem setOccupied_zones (z n : Nat) :
    (s.setOccupied z n).zones = s.zones := by unfold State.setOccupied; split <;> rfl
@[simp] theorem setOccupied_freeRecords (z n : Nat) :
    (s.setOccupied z n).freeRecords = s.freeRecords := by unfold State.setOccupied; split <;> rfl
@[simp] theorem setOccupied_holds (z n : Nat) :
    (s.setOccupied z n).holds = s.holds := by unfold State.setOccupied; split <;> rfl
@[simp] theorem setOccupied_carriers (z n : Nat) :
    (s.setOccupied z n).carriers = s.carriers := by unfold State.setOccupied; split <;> rfl
@[simp] theorem setOccupied_waits (z n : Nat) :
    (s.setOccupied z n).waits = s.waits := by unfold State.setOccupied; split <;> rfl
@[simp] theorem setOccupied_cycle (z n : Nat) :
    (s.setOccupied z n).cycle = s.cycle := by unfold State.setOccupied; split <;> rfl
@[simp] theorem setOccupied_timerRunning (z n : Nat) :
    (s.setOccupied z n).timerRunning = s.timerRunning := by unfold State.setOccupied; split <;> rfl
@[simp] theorem setOccupied_period (z n : Nat) :
    (s.setOccupied z n).period = s.period := by unfold State.setOccupied; split <;> rfl
@[simp] theorem setOccupied_params (z n : Nat) :
    (s.setOccupied z n).params = s.params := by unfold State.setOccupied; split <;> rfl
@[simp] theorem setOccupied_partState (z n : Nat) :
    (s.setOccupied z n).partState = s.partState := by unfold State.setOccupied; split <;> rfl
@[simp] theorem setOccupied_haltCause (z n : Nat) :
    (s.setOccupied z n).haltCause = s.haltCause := by unfold State.setOccupied; split <;> rfl
@[simp] theorem setOccupied_freeTick (z n : Nat) :
    (s.setOccupied z n).freeTick = s.freeTick := by unfold State.setOccupied; split <;> rfl

/-! ### offerInbound -/

@[simp] theorem offerInbound_pending (p : PortId) (f : Frame) :
    (offerInbound p f s).pending = s.pending := by unfold offerInbound; split <;> simp
@[simp] theorem offerInbound_pins (p : PortId) (f : Frame) :
    (offerInbound p f s).pins = s.pins := by unfold offerInbound; split <;> simp
@[simp] theorem offerInbound_stationStrap (p : PortId) (f : Frame) :
    (offerInbound p f s).stationStrap = s.stationStrap := by unfold offerInbound; split <;> simp
@[simp] theorem offerInbound_rateStrap (p : PortId) (f : Frame) :
    (offerInbound p f s).rateStrap = s.rateStrap := by unfold offerInbound; split <;> simp
@[simp] theorem offerInbound_sections (p : PortId) (f : Frame) :
    (offerInbound p f s).sections = s.sections := by unfold offerInbound; split <;> simp
@[simp] theorem offerInbound_zones (p : PortId) (f : Frame) :
    (offerInbound p f s).zones = s.zones := by unfold offerInbound; split <;> simp
@[simp] theorem offerInbound_freeRecords (p : PortId) (f : Frame) :
    (offerInbound p f s).freeRecords = s.freeRecords := by unfold offerInbound; split <;> simp
@[simp] theorem offerInbound_holds (p : PortId) (f : Frame) :
    (offerInbound p f s).holds = s.holds := by unfold offerInbound; split <;> simp
@[simp] theorem offerInbound_occupancy (p : PortId) (f : Frame) :
    (offerInbound p f s).occupancy = s.occupancy := by unfold offerInbound; split <;> simp
@[simp] theorem offerInbound_carriers (p : PortId) (f : Frame) :
    (offerInbound p f s).carriers = s.carriers := by unfold offerInbound; split <;> simp
@[simp] theorem offerInbound_waits (p : PortId) (f : Frame) :
    (offerInbound p f s).waits = s.waits := by unfold offerInbound; split <;> simp
@[simp] theorem offerInbound_cycle (p : PortId) (f : Frame) :
    (offerInbound p f s).cycle = s.cycle := by unfold offerInbound; split <;> simp
@[simp] theorem offerInbound_timerRunning (p : PortId) (f : Frame) :
    (offerInbound p f s).timerRunning = s.timerRunning := by unfold offerInbound; split <;> simp
@[simp] theorem offerInbound_period (p : PortId) (f : Frame) :
    (offerInbound p f s).period = s.period := by unfold offerInbound; split <;> simp
@[simp] theorem offerInbound_params (p : PortId) (f : Frame) :
    (offerInbound p f s).params = s.params := by unfold offerInbound; split <;> simp
@[simp] theorem offerInbound_partState (p : PortId) (f : Frame) :
    (offerInbound p f s).partState = s.partState := by unfold offerInbound; split <;> simp
@[simp] theorem offerInbound_haltCause (p : PortId) (f : Frame) :
    (offerInbound p f s).haltCause = s.haltCause := by unfold offerInbound; split <;> simp
@[simp] theorem offerInbound_freeTick (p : PortId) (f : Frame) :
    (offerInbound p f s).freeTick = s.freeTick := by unfold offerInbound; split <;> simp

/-! ### offerOwn -/

@[simp] theorem offerOwn_pending (p : PortId) (f : Frame) :
    (offerOwn p f s).pending = s.pending := by unfold offerOwn; split <;> simp
@[simp] theorem offerOwn_pins (p : PortId) (f : Frame) :
    (offerOwn p f s).pins = s.pins := by unfold offerOwn; split <;> simp
@[simp] theorem offerOwn_stationStrap (p : PortId) (f : Frame) :
    (offerOwn p f s).stationStrap = s.stationStrap := by unfold offerOwn; split <;> simp
@[simp] theorem offerOwn_rateStrap (p : PortId) (f : Frame) :
    (offerOwn p f s).rateStrap = s.rateStrap := by unfold offerOwn; split <;> simp
@[simp] theorem offerOwn_sections (p : PortId) (f : Frame) :
    (offerOwn p f s).sections = s.sections := by unfold offerOwn; split <;> simp
@[simp] theorem offerOwn_zones (p : PortId) (f : Frame) :
    (offerOwn p f s).zones = s.zones := by unfold offerOwn; split <;> simp
@[simp] theorem offerOwn_freeRecords (p : PortId) (f : Frame) :
    (offerOwn p f s).freeRecords = s.freeRecords := by unfold offerOwn; split <;> simp
@[simp] theorem offerOwn_holds (p : PortId) (f : Frame) :
    (offerOwn p f s).holds = s.holds := by unfold offerOwn; split <;> simp
@[simp] theorem offerOwn_occupancy (p : PortId) (f : Frame) :
    (offerOwn p f s).occupancy = s.occupancy := by unfold offerOwn; split <;> simp
@[simp] theorem offerOwn_carriers (p : PortId) (f : Frame) :
    (offerOwn p f s).carriers = s.carriers := by unfold offerOwn; split <;> simp
@[simp] theorem offerOwn_waits (p : PortId) (f : Frame) :
    (offerOwn p f s).waits = s.waits := by unfold offerOwn; split <;> simp
@[simp] theorem offerOwn_cycle (p : PortId) (f : Frame) :
    (offerOwn p f s).cycle = s.cycle := by unfold offerOwn; split <;> simp
@[simp] theorem offerOwn_timerRunning (p : PortId) (f : Frame) :
    (offerOwn p f s).timerRunning = s.timerRunning := by unfold offerOwn; split <;> simp
@[simp] theorem offerOwn_period (p : PortId) (f : Frame) :
    (offerOwn p f s).period = s.period := by unfold offerOwn; split <;> simp
@[simp] theorem offerOwn_params (p : PortId) (f : Frame) :
    (offerOwn p f s).params = s.params := by unfold offerOwn; split <;> simp
@[simp] theorem offerOwn_partState (p : PortId) (f : Frame) :
    (offerOwn p f s).partState = s.partState := by unfold offerOwn; split <;> simp
@[simp] theorem offerOwn_haltCause (p : PortId) (f : Frame) :
    (offerOwn p f s).haltCause = s.haltCause := by unfold offerOwn; split <;> simp
@[simp] theorem offerOwn_freeTick (p : PortId) (f : Frame) :
    (offerOwn p f s).freeTick = s.freeTick := by unfold offerOwn; split <;> simp

/-! ### offerForward -/

@[simp] theorem offerForward_pending (p : PortId) (f : Frame) :
    (offerForward p f s).pending = s.pending := by unfold offerForward; split <;> simp
@[simp] theorem offerForward_pins (p : PortId) (f : Frame) :
    (offerForward p f s).pins = s.pins := by unfold offerForward; split <;> simp
@[simp] theorem offerForward_stationStrap (p : PortId) (f : Frame) :
    (offerForward p f s).stationStrap = s.stationStrap := by unfold offerForward; split <;> simp
@[simp] theorem offerForward_rateStrap (p : PortId) (f : Frame) :
    (offerForward p f s).rateStrap = s.rateStrap := by unfold offerForward; split <;> simp
@[simp] theorem offerForward_sections (p : PortId) (f : Frame) :
    (offerForward p f s).sections = s.sections := by unfold offerForward; split <;> simp
@[simp] theorem offerForward_zones (p : PortId) (f : Frame) :
    (offerForward p f s).zones = s.zones := by unfold offerForward; split <;> simp
@[simp] theorem offerForward_freeRecords (p : PortId) (f : Frame) :
    (offerForward p f s).freeRecords = s.freeRecords := by unfold offerForward; split <;> simp
@[simp] theorem offerForward_holds (p : PortId) (f : Frame) :
    (offerForward p f s).holds = s.holds := by unfold offerForward; split <;> simp
@[simp] theorem offerForward_occupancy (p : PortId) (f : Frame) :
    (offerForward p f s).occupancy = s.occupancy := by unfold offerForward; split <;> simp
@[simp] theorem offerForward_carriers (p : PortId) (f : Frame) :
    (offerForward p f s).carriers = s.carriers := by unfold offerForward; split <;> simp
@[simp] theorem offerForward_waits (p : PortId) (f : Frame) :
    (offerForward p f s).waits = s.waits := by unfold offerForward; split <;> simp
@[simp] theorem offerForward_cycle (p : PortId) (f : Frame) :
    (offerForward p f s).cycle = s.cycle := by unfold offerForward; split <;> simp
@[simp] theorem offerForward_timerRunning (p : PortId) (f : Frame) :
    (offerForward p f s).timerRunning = s.timerRunning := by unfold offerForward; split <;> simp
@[simp] theorem offerForward_period (p : PortId) (f : Frame) :
    (offerForward p f s).period = s.period := by unfold offerForward; split <;> simp
@[simp] theorem offerForward_params (p : PortId) (f : Frame) :
    (offerForward p f s).params = s.params := by unfold offerForward; split <;> simp
@[simp] theorem offerForward_partState (p : PortId) (f : Frame) :
    (offerForward p f s).partState = s.partState := by unfold offerForward; split <;> simp
@[simp] theorem offerForward_haltCause (p : PortId) (f : Frame) :
    (offerForward p f s).haltCause = s.haltCause := by unfold offerForward; split <;> simp
@[simp] theorem offerForward_freeTick (p : PortId) (f : Frame) :
    (offerForward p f s).freeTick = s.freeTick := by unfold offerForward; split <;> simp

/-! ### answer -/

@[simp] theorem answer_pending (m : Mgmt) (st : Status) (d : List Byte) :
    (answer m st d s).pending = s.pending := by simp [answer]
@[simp] theorem answer_pins (m : Mgmt) (st : Status) (d : List Byte) :
    (answer m st d s).pins = s.pins := by simp [answer]
@[simp] theorem answer_stationStrap (m : Mgmt) (st : Status) (d : List Byte) :
    (answer m st d s).stationStrap = s.stationStrap := by simp [answer]
@[simp] theorem answer_rateStrap (m : Mgmt) (st : Status) (d : List Byte) :
    (answer m st d s).rateStrap = s.rateStrap := by simp [answer]
@[simp] theorem answer_sections (m : Mgmt) (st : Status) (d : List Byte) :
    (answer m st d s).sections = s.sections := by simp [answer]
@[simp] theorem answer_zones (m : Mgmt) (st : Status) (d : List Byte) :
    (answer m st d s).zones = s.zones := by simp [answer]
@[simp] theorem answer_freeRecords (m : Mgmt) (st : Status) (d : List Byte) :
    (answer m st d s).freeRecords = s.freeRecords := by simp [answer]
@[simp] theorem answer_holds (m : Mgmt) (st : Status) (d : List Byte) :
    (answer m st d s).holds = s.holds := by simp [answer]
@[simp] theorem answer_occupancy (m : Mgmt) (st : Status) (d : List Byte) :
    (answer m st d s).occupancy = s.occupancy := by simp [answer]
@[simp] theorem answer_carriers (m : Mgmt) (st : Status) (d : List Byte) :
    (answer m st d s).carriers = s.carriers := by simp [answer]
@[simp] theorem answer_waits (m : Mgmt) (st : Status) (d : List Byte) :
    (answer m st d s).waits = s.waits := by simp [answer]
@[simp] theorem answer_cycle (m : Mgmt) (st : Status) (d : List Byte) :
    (answer m st d s).cycle = s.cycle := by simp [answer]
@[simp] theorem answer_timerRunning (m : Mgmt) (st : Status) (d : List Byte) :
    (answer m st d s).timerRunning = s.timerRunning := by simp [answer]
@[simp] theorem answer_period (m : Mgmt) (st : Status) (d : List Byte) :
    (answer m st d s).period = s.period := by simp [answer]
@[simp] theorem answer_params (m : Mgmt) (st : Status) (d : List Byte) :
    (answer m st d s).params = s.params := by simp [answer]
@[simp] theorem answer_partState (m : Mgmt) (st : Status) (d : List Byte) :
    (answer m st d s).partState = s.partState := by simp [answer]
@[simp] theorem answer_haltCause (m : Mgmt) (st : Status) (d : List Byte) :
    (answer m st d s).haltCause = s.haltCause := by simp [answer]
@[simp] theorem answer_freeTick (m : Mgmt) (st : Status) (d : List Byte) :
    (answer m st d s).freeTick = s.freeTick := by simp [answer]

/-! ### notice -/

@[simp] theorem notice_pending (k : Byte) (d : List Byte) : (notice k d s).pending = s.pending := by simp [notice]
@[simp] theorem notice_pins (k : Byte) (d : List Byte) : (notice k d s).pins = s.pins := by simp [notice]
@[simp] theorem notice_stationStrap (k : Byte) (d : List Byte) :
    (notice k d s).stationStrap = s.stationStrap := by simp [notice]
@[simp] theorem notice_rateStrap (k : Byte) (d : List Byte) :
    (notice k d s).rateStrap = s.rateStrap := by simp [notice]
@[simp] theorem notice_sections (k : Byte) (d : List Byte) : (notice k d s).sections = s.sections := by simp [notice]
@[simp] theorem notice_zones (k : Byte) (d : List Byte) : (notice k d s).zones = s.zones := by simp [notice]
@[simp] theorem notice_freeRecords (k : Byte) (d : List Byte) :
    (notice k d s).freeRecords = s.freeRecords := by simp [notice]
@[simp] theorem notice_holds (k : Byte) (d : List Byte) : (notice k d s).holds = s.holds := by simp [notice]
@[simp] theorem notice_occupancy (k : Byte) (d : List Byte) :
    (notice k d s).occupancy = s.occupancy := by simp [notice]
@[simp] theorem notice_carriers (k : Byte) (d : List Byte) : (notice k d s).carriers = s.carriers := by simp [notice]
@[simp] theorem notice_waits (k : Byte) (d : List Byte) : (notice k d s).waits = s.waits := by simp [notice]
@[simp] theorem notice_cycle (k : Byte) (d : List Byte) : (notice k d s).cycle = s.cycle := by simp [notice]
@[simp] theorem notice_timerRunning (k : Byte) (d : List Byte) :
    (notice k d s).timerRunning = s.timerRunning := by simp [notice]
@[simp] theorem notice_period (k : Byte) (d : List Byte) : (notice k d s).period = s.period := by simp [notice]
@[simp] theorem notice_params (k : Byte) (d : List Byte) : (notice k d s).params = s.params := by simp [notice]
@[simp] theorem notice_partState (k : Byte) (d : List Byte) :
    (notice k d s).partState = s.partState := by simp [notice]
@[simp] theorem notice_haltCause (k : Byte) (d : List Byte) :
    (notice k d s).haltCause = s.haltCause := by simp [notice]
@[simp] theorem notice_freeTick (k : Byte) (d : List Byte) : (notice k d s).freeTick = s.freeTick := by simp [notice]

end Sys2Proof.Laws
end

