-- ==== Sys2Proof/Laws/Frame.lean ====
section
/-! SUPPORT. The frame of each shared operation: which parts of the state it leaves as they were. Every composition of
operations follows by `refl` and `trans`. -/

namespace Sys2Proof.Laws

open Sys2Proof.Machine

/-! ### The frames compose -/

theorem SameMap.refl (s : State) : SameMap s s := ⟨rfl, rfl, rfl⟩

theorem SameMap.trans {s t u : State} (h : SameMap s t) (k : SameMap t u) : SameMap s u :=
  ⟨k.1.trans h.1, k.2.trans h.2, k.3.trans h.3⟩

theorem SameTraffic.refl (s : State) : SameTraffic s s := ⟨rfl, rfl, rfl, rfl⟩

theorem SameTraffic.trans {s t u : State} (h : SameTraffic s t) (k : SameTraffic t u) : SameTraffic s u :=
  ⟨k.1.trans h.1, k.2.trans h.2, k.3.trans h.3, k.4.trans h.4⟩

theorem SameControl.refl (s : State) : SameControl s s := ⟨rfl, rfl, rfl, rfl, rfl, rfl⟩

theorem SameControl.trans {s t u : State} (h : SameControl s t) (k : SameControl t u) : SameControl s u :=
  ⟨k.1.trans h.1, k.2.trans h.2, k.3.trans h.3, k.4.trans h.4, k.5.trans h.5, k.6.trans h.6⟩

theorem SameBoard.refl (s : State) : SameBoard s s := ⟨rfl, rfl, rfl, rfl, rfl⟩

theorem SameBoard.trans {s t u : State} (h : SameBoard s t) (k : SameBoard t u) : SameBoard s u :=
  ⟨k.1.trans h.1, k.2.trans h.2, k.3.trans h.3, k.4.trans h.4, k.5.trans h.5⟩

theorem TrafficOnly.refl (s : State) : TrafficOnly s s := ⟨SameMap.refl s, SameControl.refl s, SameBoard.refl s⟩

theorem TrafficOnly.trans {s t u : State} (h : TrafficOnly s t) (k : TrafficOnly t u) : TrafficOnly s u :=
  ⟨SameMap.trans h.1 k.1, SameControl.trans h.2 k.2, SameBoard.trans h.3 k.3⟩

theorem PortsOnly.refl (s : State) : PortsOnly s s :=
  ⟨SameMap.refl s, SameTraffic.refl s, SameControl.refl s, SameBoard.refl s⟩

theorem PortsOnly.trans {s t u : State} (h : PortsOnly s t) (k : PortsOnly t u) : PortsOnly s u :=
  ⟨SameMap.trans h.1 k.1, SameTraffic.trans h.2 k.2, SameControl.trans h.3 k.3, SameBoard.trans h.4 k.4⟩

theorem PortsOnly.trafficOnly {s t : State} (h : PortsOnly s t) : TrafficOnly s t := ⟨h.1, h.3, h.4⟩

/-- A fold over operations that each keep the frame keeps it. -/
theorem TrafficOnly.foldl {α : Type} {f : State → α → State} (h : ∀ s a, TrafficOnly s (f s a)) (l : List α) (s : State) :
    TrafficOnly s (l.foldl f s) := by
  induction l generalizing s with
  | nil => exact TrafficOnly.refl s
  | cons a l ih => exact TrafficOnly.trans (h s a) (ih (f s a))

/-! ### Ports and frames -/

variable (s : State)

theorem setPort_portsOnly (p : PortId) (x : Port) : PortsOnly s (s.setPort p x) := by
  cases p <;> exact ⟨⟨rfl, rfl, rfl⟩, ⟨rfl, rfl, rfl, rfl⟩, ⟨rfl, rfl, rfl, rfl, rfl, rfl⟩, ⟨rfl, rfl, rfl, rfl, rfl⟩⟩

theorem raise_portsOnly (p : PortId) (f : PortFlag) : PortsOnly s (s.raise p f) := setPort_portsOnly s p _

theorem setRx_portsOnly (p : PortId) (r : RxState) : PortsOnly s (s.setRx p r) := setPort_portsOnly s p _

theorem dropFront_portsOnly (p : PortId) : PortsOnly s (dropFront p s) := setPort_portsOnly s p _

theorem offerInbound_portsOnly (p : PortId) (f : Frame) : PortsOnly s (offerInbound p f s) := by
  unfold offerInbound; split
  · exact setPort_portsOnly s p _
  · exact raise_portsOnly s p _

theorem offerOwn_portsOnly (p : PortId) (f : Frame) : PortsOnly s (offerOwn p f s) := by
  unfold offerOwn; split
  · exact setPort_portsOnly s p _
  · exact raise_portsOnly s p _

theorem offerForward_portsOnly (p : PortId) (f : Frame) : PortsOnly s (offerForward p f s) := by
  unfold offerForward; split
  · exact setPort_portsOnly s p _
  · exact raise_portsOnly s p _

theorem answer_portsOnly (m : Mgmt) (st : Status) (d : List Byte) : PortsOnly s (answer m st d s) :=
  offerOwn_portsOnly s .d _

theorem refuse_portsOnly (m : Mgmt) (st : Status) : PortsOnly s (refuse m st s) := answer_portsOnly s m st []

theorem notice_portsOnly (k : Byte) (d : List Byte) : PortsOnly s (notice k d s) := offerOwn_portsOnly s .d _

/-! ### Contexts, holds and waits -/

theorem modifyCarrier_trafficOnly (n : Nat) (f : Carrier → Carrier) : TrafficOnly s (s.modifyCarrier n f) :=
  ⟨by constructor <;> simp, by constructor <;> simp, by constructor <;> simp⟩

theorem putCarrier_trafficOnly (n : Nat) (c : Carrier) : TrafficOnly s (s.putCarrier n c) :=
  ⟨⟨rfl, rfl, rfl⟩, ⟨rfl, rfl, rfl, rfl, rfl, rfl⟩, ⟨rfl, rfl, rfl, rfl, rfl⟩⟩

theorem vacate_trafficOnly (n : Nat) : TrafficOnly s (s.vacate n) :=
  ⟨⟨rfl, rfl, rfl⟩, ⟨rfl, rfl, rfl, rfl, rfl, rfl⟩, ⟨rfl, rfl, rfl, rfl, rfl⟩⟩

theorem setHold_trafficOnly (n : Nat) (h : HoldRecord) : TrafficOnly s (s.setHold n h) :=
  ⟨by constructor <;> simp, by constructor <;> simp, by constructor <;> simp⟩

theorem setOccupied_trafficOnly (z n : Nat) : TrafficOnly s (s.setOccupied z n) :=
  ⟨by constructor <;> simp, by constructor <;> simp, by constructor <;> simp⟩

theorem setWaits_trafficOnly (w : List WaitEntry) : TrafficOnly s { s with waits := w } :=
  ⟨⟨rfl, rfl, rfl⟩, ⟨rfl, rfl, rfl, rfl, rfl, rfl⟩, ⟨rfl, rfl, rfl, rfl, rfl⟩⟩

theorem sendAnswer_trafficOnly (n : Nat) (f : Frame) : TrafficOnly s (sendAnswer n f s) :=
  TrafficOnly.trans (modifyCarrier_trafficOnly s n _) (PortsOnly.trafficOnly (offerOwn_portsOnly _ .c f))

theorem addHolder_trafficOnly (n : Nat) (e : RouteEntry) : TrafficOnly s (addHolder n e s) := by
  unfold addHolder
  refine TrafficOnly.trans ?_ (setHold_trafficOnly _ _ _)
  split
  · exact setOccupied_trafficOnly s _ _
  · exact TrafficOnly.refl s

theorem removeHolder_trafficOnly (n sec : Nat) : TrafficOnly s (removeHolder n sec s).1 := by
  unfold removeHolder
  split
  · dsimp only
    split
    · exact TrafficOnly.trans (setHold_trafficOnly s _ _) (setOccupied_trafficOnly _ _ _)
    · exact setHold_trafficOnly s _ _
  · exact TrafficOnly.refl s

theorem setHoldState_trafficOnly (n sec : Nat) (st : HoldState) : TrafficOnly s (setHoldState n sec st s) :=
  setHold_trafficOnly s _ _

theorem setDirection_trafficOnly (sec : Nat) (d : Direction) : TrafficOnly s (setDirection sec d s) :=
  setHold_trafficOnly s _ _

theorem sendGrant_trafficOnly (n : Nat) (g : Grant) : TrafficOnly s (sendGrant n g s) :=
  TrafficOnly.trans (modifyCarrier_trafficOnly s n _) (sendAnswer_trafficOnly _ n _)

theorem endWait_trafficOnly (n : Nat) : TrafficOnly s (endWait n s) := by
  unfold endWait
  split
  · exact TrafficOnly.refl s
  · exact TrafficOnly.trans (setWaits_trafficOnly s _) (modifyCarrier_trafficOnly _ n _)

theorem walkFrom_trafficOnly (e : WaitEntry) : TrafficOnly s (walkFrom e s).1 := by
  unfold walkFrom
  split
  · exact TrafficOnly.refl s
  · exact TrafficOnly.trans (TrafficOnly.trans (endWait_trafficOnly s e.slot) (modifyCarrier_trafficOnly _ _ _))
      (PortsOnly.trafficOnly (notice_portsOnly _ _ _))

theorem enterWait_trafficOnly (e : WaitEntry) : TrafficOnly s (enterWait e s).1 := by
  unfold enterWait
  split
  · exact TrafficOnly.trans (TrafficOnly.trans (setWaits_trafficOnly s _) (modifyCarrier_trafficOnly _ _ _))
      (walkFrom_trafficOnly _ e)
  · dsimp only
    split
    · exact setWaits_trafficOnly s _
    · exact TrafficOnly.trans (setWaits_trafficOnly s _) (walkFrom_trafficOnly _ e)

/-! ### The Passage Engine and the Arbiter -/

theorem acquire_trafficOnly (n : Nat) (e : RouteEntry) : TrafficOnly s (acquire n e s) := by
  have h : ∀ u, TrafficOnly s u → TrafficOnly s (match (u.modifyCarrier n (fun c => { c with limit := c.limit + 1 })).waitOf n with
      | some w => if w.wantedSection = e.sec then
          endWait n (u.modifyCarrier n (fun c => { c with limit := c.limit + 1 }))
        else u.modifyCarrier n (fun c => { c with limit := c.limit + 1 })
      | none => u.modifyCarrier n (fun c => { c with limit := c.limit + 1 })) := by
    intro u hu
    have hm := TrafficOnly.trans hu (modifyCarrier_trafficOnly u n (fun c => { c with limit := c.limit + 1 }))
    split
    · split
      · exact TrafficOnly.trans hm (endWait_trafficOnly _ n)
      · exact hm
    · exact hm
  unfold acquire
  refine h _ ?_
  split
  · exact TrafficOnly.trans (modifyCarrier_trafficOnly s n _) (setDirection_trafficOnly _ _ _)
  · exact addHolder_trafficOnly s n e

theorem acquireLoop_trafficOnly (n fuel : Nat) (g : Bool) : TrafficOnly s (acquireLoop n fuel g s).state := by
  induction fuel generalizing s g with
  | zero => exact TrafficOnly.refl s
  | succ fuel ih =>
    unfold acquireLoop
    dsimp only
    split
    · split
      · exact TrafficOnly.refl s
      · split
        · exact TrafficOnly.refl s
        · exact TrafficOnly.trans (acquire_trafficOnly s n _) (ih _ _)
    · exact TrafficOnly.refl s

theorem settleWait_trafficOnly (n : Nat) (x : Option Stop) : TrafficOnly s (settleWait n x s).1 := by
  unfold settleWait
  split
  · exact endWait_trafficOnly s n
  · exact endWait_trafficOnly s n
  · rename_i i sec r b
    have h := enterWait_trafficOnly s ⟨n, i, sec, r, b⟩
    split <;> simp_all

theorem compute_trafficOnly (n : Nat) : TrafficOnly s (compute n s).state :=
  TrafficOnly.trans (acquireLoop_trafficOnly s n _ _) (settleWait_trafficOnly _ n _)

theorem passOver_trafficOnly (n : Nat) : TrafficOnly s (passOver n s) := by
  unfold passOver
  dsimp only
  split
  · exact modifyCarrier_trafficOnly s n _
  · split
    · exact TrafficOnly.refl s
    · exact TrafficOnly.trans (PortsOnly.trafficOnly (notice_portsOnly s _ _)) (modifyCarrier_trafficOnly _ n _)

theorem rerun_trafficOnly (n : Nat) (g : Bool) : TrafficOnly s (rerun n g s).1 := by
  have h : TrafficOnly s (if (compute n s).grant.differs ((compute n s).state.carrier n) then
      sendGrant n (compute n s).grant (compute n s).state else (compute n s).state) := by
    split
    · exact TrafficOnly.trans (compute_trafficOnly s n) (sendGrant_trafficOnly _ n _)
    · exact compute_trafficOnly s n
  unfold rerun
  dsimp only
  revert h
  generalize (if (compute n s).grant.differs ((compute n s).state.carrier n) then
      sendGrant n (compute n s).grant (compute n s).state else (compute n s).state) = u
  intro h
  split
  · exact TrafficOnly.trans h (passOver_trafficOnly _ n)
  · exact h

theorem rerunAll_trafficOnly (q : Option Nat) (l : List Nat) (g : Bool) : TrafficOnly s (rerunAll q l g s) := by
  induction l generalizing s g with
  | nil => exact TrafficOnly.refl s
  | cons n l ih =>
    unfold rerunAll
    split
    · exact ih s g
    · exact TrafficOnly.trans (rerun_trafficOnly s n g) (ih _ _)

/-- A wake event changes traffic and ports, nothing else (R102 to R107). -/
theorem wake_trafficOnly (ev : WakeEvent) (q : Option Nat) : TrafficOnly s (wake ev q s) := by
  unfold wake; split
  · exact rerunAll_trafficOnly s q _ _
  · exact TrafficOnly.refl s

theorem release_trafficOnly (n sec : Nat) (q : Option Nat) : TrafficOnly s (release n sec q s) := by
  unfold release; split
  · exact TrafficOnly.trans (removeHolder_trafficOnly s n sec) (wake_trafficOnly _ _ _)
  · exact TrafficOnly.refl s

theorem releaseAll_trafficOnly (n : Nat) (q : Option Nat) (l : List Nat) : TrafficOnly s (releaseAll n q l s) := by
  induction l generalizing s with
  | nil => exact TrafficOnly.refl s
  | cons sec l ih => exact TrafficOnly.trans (release_trafficOnly s n sec q) (ih _)

theorem makeActive_trafficOnly (n sec : Nat) : TrafficOnly s (makeActive n sec s) :=
  TrafficOnly.trans (setHoldState_trafficOnly s n sec _) (wake_trafficOnly _ _ _)

/-! ### The Cutback Unit -/

theorem recallHolds_trafficOnly (n : Nat) (l : List Nat) : TrafficOnly s (recallHolds n l s) :=
  TrafficOnly.foldl (fun s sec => setHoldState_trafficOnly s n sec _) l s

theorem setCutback_trafficOnly (n target upto : Nat) : TrafficOnly s (setCutback n target upto s) :=
  TrafficOnly.trans (TrafficOnly.trans (recallHolds_trafficOnly s n _) (modifyCarrier_trafficOnly _ n _))
    (sendAnswer_trafficOnly _ n _)

theorem trigger_trafficOnly (n target : Nat) : TrafficOnly s (trigger n target s) := by
  unfold trigger
  dsimp only
  split
  · split
    · exact TrafficOnly.trans (modifyCarrier_trafficOnly s n _) (setCutback_trafficOnly _ _ _ _)
    · exact TrafficOnly.refl s
  · split
    · exact setCutback_trafficOnly s _ _ _
    · exact TrafficOnly.refl s

theorem clearRecord_trafficOnly (n : Nat) : TrafficOnly s (clearRecord n s) := modifyCarrier_trafficOnly s n _

theorem acceptCutback_trafficOnly (n : Nat) (k : CutbackRecord) : TrafficOnly s (acceptCutback n k s) :=
  TrafficOnly.trans (TrafficOnly.trans (releaseAll_trafficOnly s n none _) (modifyCarrier_trafficOnly _ n _))
    (clearRecord_trafficOnly _ n)

theorem restoreHolds_trafficOnly (n : Nat) (l : List Nat) : TrafficOnly s (restoreHolds n l s) := by
  induction l generalizing s with
  | nil => exact TrafficOnly.refl s
  | cons sec l ih =>
    unfold restoreHolds
    refine TrafficOnly.trans ?_ (ih _)
    split
    · exact makeActive_trafficOnly s n sec
    · exact TrafficOnly.refl s

theorem endUnaccepted_trafficOnly (n : Nat) (k : CutbackRecord) (c : Condition) (code : Byte) :
    TrafficOnly s (endUnaccepted n k c code s) :=
  TrafficOnly.trans (TrafficOnly.trans (TrafficOnly.trans (restoreHolds_trafficOnly s n _) (clearRecord_trafficOnly _ n))
    (modifyCarrier_trafficOnly _ n _)) (PortsOnly.trafficOnly (notice_portsOnly _ _ _))

theorem refresh_trafficOnly (n : Nat) : TrafficOnly s (refresh n s) := modifyCarrier_trafficOnly s n _

theorem takeAck_trafficOnly (n : Nat) (a : CutbackAck) : TrafficOnly s (takeAck n a s) := by
  have h := refresh_trafficOnly s n
  unfold takeAck
  split
  · dsimp only
    split
    · exact h
    · split
      · exact h
      · split
        · exact TrafficOnly.trans h (acceptCutback_trafficOnly _ n _)
        · split
          · exact TrafficOnly.trans h (endUnaccepted_trafficOnly _ n _ _ _)
          · exact h
  · exact TrafficOnly.refl s

theorem closeTrigger_trafficOnly (n : Nat) : TrafficOnly s (closeTrigger n s) := by
  unfold closeTrigger
  dsimp only
  split
  · split
    · exact trigger_trafficOnly s n _
    · exact TrafficOnly.refl s
  · exact TrafficOnly.refl s

theorem closeWait_trafficOnly (n : Nat) : TrafficOnly s (closeWait n s) := by
  have h := endWait_trafficOnly s n
  unfold closeWait
  dsimp only
  split
  · exact TrafficOnly.trans h (sendGrant_trafficOnly _ n _)
  · exact TrafficOnly.trans h (modifyCarrier_trafficOnly _ n _)

theorem closeTraffic_trafficOnly (f : Nat → Bool) : TrafficOnly s (closeTraffic f s) :=
  TrafficOnly.trans (TrafficOnly.foldl (fun s n => closeWait_trafficOnly s n) _ s)
    (TrafficOnly.foldl (fun s n => closeTrigger_trafficOnly s n) _ _)

/-! ### Loss, position and answers -/

theorem freezeHolds_trafficOnly (n : Nat) : TrafficOnly s (freezeHolds n s) :=
  ⟨⟨rfl, rfl, rfl⟩, ⟨rfl, rfl, rfl, rfl, rfl, rfl⟩, ⟨rfl, rfl, rfl, rfl, rfl⟩⟩

theorem leaveService_trafficOnly (n : Nat) (st : CarrierState) (cause : LostCause) (c : Condition) (code : Byte) :
    TrafficOnly s (leaveService n st cause c code s) :=
  TrafficOnly.trans (TrafficOnly.trans (TrafficOnly.trans (endWait_trafficOnly s n) (freezeHolds_trafficOnly _ n))
    (modifyCarrier_trafficOnly _ n _)) (PortsOnly.trafficOnly (notice_portsOnly _ _ _))

theorem trimOne_trafficOnly (n : Nat) : TrafficOnly s (trimOne n s) := by
  unfold trimOne
  split
  · exact TrafficOnly.refl s
  · rename_i e rest _
    have h := TrafficOnly.trans (modifyCarrier_trafficOnly s n (fun c => { c with trail := rest }))
      (release_trafficOnly _ n e.sec (some n))
    dsimp only
    split
    · exact h
    · split
      · exact TrafficOnly.trans h (modifyCarrier_trafficOnly _ n _)
      · exact TrafficOnly.trans (TrafficOnly.trans h (PortsOnly.trafficOnly (notice_portsOnly _ _ _)))
          (modifyCarrier_trafficOnly _ n _)

theorem trimMany_trafficOnly (n k : Nat) : TrafficOnly s (trimMany n k s) := by
  induction k generalizing s with
  | zero => exact TrafficOnly.refl s
  | succ k ih => exact TrafficOnly.trans (trimOne_trafficOnly s n) (ih _)

theorem trimTrail_trafficOnly (n count : Nat) : TrafficOnly s (trimTrail n count s) := trimMany_trafficOnly s n _

theorem updatePosition_trafficOnly (n : Nat) (r : MoveReq) : TrafficOnly s (updatePosition n r s) :=
  TrafficOnly.trans (TrafficOnly.trans (modifyCarrier_trafficOnly s n _) (trimTrail_trafficOnly _ n _))
    (modifyCarrier_trafficOnly _ n _)

theorem answerRequest_trafficOnly (n : Nat) : TrafficOnly s (answerRequest n s) := by
  unfold answerRequest
  split
  · exact sendGrant_trafficOnly s n _
  · exact TrafficOnly.trans (compute_trafficOnly s n) (sendGrant_trafficOnly _ n _)

theorem completeRoute_trafficOnly (n : Nat) : TrafficOnly s (completeRoute n s) :=
  TrafficOnly.trans (TrafficOnly.trans (PortsOnly.trafficOnly (notice_portsOnly s _ _)) (modifyCarrier_trafficOnly _ n _))
    (sendGrant_trafficOnly _ n _)

theorem finishRequest_trafficOnly (n : Nat) : TrafficOnly s (finishRequest n s) := by
  unfold finishRequest
  dsimp only
  split
  · exact completeRoute_trafficOnly s n
  · exact answerRequest_trafficOnly s n

theorem cutbackStep_trafficOnly (n : Nat) : TrafficOnly s (cutbackStep n s) := by
  unfold cutbackStep
  split
  · exact finishRequest_trafficOnly s n
  · split
    · exact TrafficOnly.trans (endUnaccepted_trafficOnly s n _ _ _) (finishRequest_trafficOnly _ n)
    · exact sendAnswer_trafficOnly s n _

theorem takeRejoin_trafficOnly (n : Nat) (r : Rejoin) : TrafficOnly s (takeRejoin n r s) := by
  unfold takeRejoin
  dsimp only
  split
  all_goals first
    | exact TrafficOnly.refl s
    | exact TrafficOnly.trans (modifyCarrier_trafficOnly s n _) (PortsOnly.trafficOnly (notice_portsOnly _ _ _))

/-! ### Commands that change traffic only -/

theorem handleRoute_trafficOnly (o : RouteOrder) : TrafficOnly s (handleRoute o s) := by
  unfold handleRoute
  split
  · exact PortsOnly.trafficOnly (notice_portsOnly s _ _)
  · refine TrafficOnly.trans ?_ (PortsOnly.trafficOnly (offerForward_portsOnly _ _ _))
    unfold storeRoute
    refine TrafficOnly.trans ?_ (modifyCarrier_trafficOnly _ _ _)
    split
    · exact TrafficOnly.trans (endWait_trafficOnly s _) (setDirection_trafficOnly _ _ _)
    · exact endWait_trafficOnly s _

theorem admitCarrier_trafficOnly (o : AdmitOrder) (d : Direction) : TrafficOnly s (admitCarrier o d s) :=
  TrafficOnly.trans (putCarrier_trafficOnly s _ _) (addHolder_trafficOnly _ _ _)

theorem retire_trafficOnly (n : Nat) : TrafficOnly s (retire n s) :=
  TrafficOnly.trans (TrafficOnly.trans (TrafficOnly.trans (endWait_trafficOnly s n) (setWaits_trafficOnly _ _))
    (releaseAll_trafficOnly _ n none _)) (vacate_trafficOnly _ n)

theorem keepHold_trafficOnly (n : Nat) (e : RouteEntry) : TrafficOnly s (keepHold n e s) := by
  unfold keepHold
  refine TrafficOnly.trans ?_ (makeActive_trafficOnly _ n _)
  split
  · exact setDirection_trafficOnly s _ _
  · exact TrafficOnly.refl s

theorem keepHolds_trafficOnly (n : Nat) (es : List RouteEntry) : TrafficOnly s (keepHolds n es s) :=
  TrafficOnly.foldl (fun s e => keepHold_trafficOnly s n e) es s

theorem takeHolds_trafficOnly (n : Nat) (es : List RouteEntry) : TrafficOnly s (takeHolds n es s) :=
  TrafficOnly.foldl (fun s e => addHolder_trafficOnly s n e) es s

theorem placeHolds_trafficOnly (n : Nat) (kept taken : List RouteEntry) :
    TrafficOnly s (placeHolds n kept taken s) := by
  unfold placeHolds
  dsimp only
  split
  · exact TrafficOnly.trans (keepHolds_trafficOnly s n kept) (takeHolds_trafficOnly _ n taken)
  · exact TrafficOnly.trans (takeHolds_trafficOnly s n taken) (keepHolds_trafficOnly _ n kept)

theorem clear_trafficOnly (n : Nat) (p : Position) : TrafficOnly s (clear n p s) :=
  TrafficOnly.trans (TrafficOnly.trans (placeHolds_trafficOnly s n _ _) (releaseAll_trafficOnly _ n none _))
    (modifyCarrier_trafficOnly _ n _)

end Sys2Proof.Laws
end

