-- ==== Sys2Proof/Laws/Table.lean ====
section
/-! SUPPORT. The sparse tables: an entry put in is read back, every other number reads as before, and both changes keep
the canonical form. -/

namespace Sys2Proof.Laws

open Sys2Proof.Machine

variable {α : Type}

theorem lookup_insertAt_same (t : List (Nat × α)) (n : Nat) (a : α) : lookup (insertAt t n a) n = some a := by
  induction t with
  | nil => simp [insertAt, lookup]
  | cons e t ih =>
    obtain ⟨k, b⟩ := e
    by_cases h1 : n < k
    · simp [insertAt, lookup, h1]
    · by_cases h2 : n = k
      · simp [insertAt, lookup, h2]
      · simp [insertAt, lookup, h1, h2, Ne.symm h2, ih]

theorem lookup_insertAt_other (t : List (Nat × α)) {n m : Nat} (a : α) (h : m ≠ n) :
    lookup (insertAt t n a) m = lookup t m := by
  induction t with
  | nil => simp [insertAt, lookup, Ne.symm h]
  | cons e t ih =>
    obtain ⟨k, b⟩ := e
    by_cases h1 : n < k
    · simp [insertAt, lookup, h1, Ne.symm h]
    · by_cases h2 : n = k
      · subst h2; simp [insertAt, lookup, Ne.symm h]
      · simp [insertAt, lookup, h1, h2, ih]

/-- What a put does to every read. -/
theorem lookup_insertAt (t : List (Nat × α)) (n m : Nat) (a : α) :
    lookup (insertAt t n a) m = if m = n then some a else lookup t m := by
  by_cases h : m = n
  · subst h; simp [lookup_insertAt_same]
  · simp [h, lookup_insertAt_other t a h]

/-- What a removal does to every read. -/
theorem lookup_removeAt (t : List (Nat × α)) (n m : Nat) :
    lookup (removeAt t n) m = if m = n then none else lookup t m := by
  induction t with
  | nil => simp [removeAt, lookup]
  | cons e t ih =>
    obtain ⟨k, b⟩ := e
    by_cases hk : k = n
    · subst hk
      have : removeAt ((k, b) :: t) k = removeAt t k := by simp [removeAt]
      rw [this, ih]
      by_cases hm : m = k
      · simp [hm]
      · simp [lookup, hm, Ne.symm hm]
    · have : removeAt ((k, b) :: t) n = (k, b) :: removeAt t n := by simp [removeAt, hk]
      rw [this, lookup, ih, lookup]
      by_cases hm : m = n
      · subst hm; simp [hk]
      · simp [hm]

theorem mem_of_lookup {t : List (Nat × α)} {n : Nat} {a : α} (h : lookup t n = some a) : (n, a) ∈ t := by
  induction t with
  | nil => simp [lookup] at h
  | cons e t ih =>
    obtain ⟨k, b⟩ := e
    by_cases hk : k = n
    · subst hk; simp [lookup] at h; simp [h]
    · simp only [lookup, hk, if_false] at h; exact List.mem_cons_of_mem _ (ih h)

/-- In a rising table the listed entry is the one read. -/
theorem lookup_of_mem {t : List (Nat × α)} (hr : Rising t) {n : Nat} {a : α} (h : (n, a) ∈ t) : lookup t n = some a := by
  induction t with
  | nil => cases h
  | cons e t ih =>
    obtain ⟨k, b⟩ := e
    have hr' := List.pairwise_cons.mp hr
    rcases List.mem_cons.mp h with h | h
    · cases h; simp [lookup]
    · have hlt : k < n := hr'.1 _ h
      simp [lookup, Nat.ne_of_lt hlt, ih hr'.2 h]

theorem mem_insertAt {t : List (Nat × α)} {n : Nat} {a : α} {e : Nat × α} (h : e ∈ insertAt t n a) :
    e = (n, a) ∨ e ∈ t := by
  induction t with
  | nil => simpa [insertAt] using h
  | cons x t ih =>
    obtain ⟨k, b⟩ := x
    unfold insertAt at h
    split at h
    · simpa using h
    · split at h
      · rcases List.mem_cons.mp h with h | h
        · exact .inl h
        · exact .inr (List.mem_cons_of_mem _ h)
      · rcases List.mem_cons.mp h with h | h
        · exact .inr (h ▸ List.mem_cons_self ..)
        · exact (ih h).imp id (List.mem_cons_of_mem _)

/-- A put keeps the canonical form. -/
theorem rising_insertAt {t : List (Nat × α)} (h : Rising t) (n : Nat) (a : α) : Rising (insertAt t n a) := by
  induction t with
  | nil => simp [insertAt, Rising]
  | cons e t ih =>
    obtain ⟨k, b⟩ := e
    have hc := List.pairwise_cons.mp h
    by_cases h1 : n < k
    · simp only [insertAt, h1, if_true]
      refine List.pairwise_cons.mpr ⟨?_, h⟩
      intro e he
      rcases List.mem_cons.mp he with he | he
      · subst he; exact h1
      · exact Nat.lt_trans h1 (hc.1 e he)
    · by_cases h2 : n = k
      · subst h2; simpa [insertAt, Rising] using hc
      · simp only [insertAt, h1, h2, if_false]
        refine List.pairwise_cons.mpr ⟨?_, ih hc.2⟩
        intro e he
        rcases mem_insertAt he with he | he
        · subst he; simp only; omega
        · exact hc.1 e he

/-- A removal keeps the canonical form. -/
theorem rising_removeAt {t : List (Nat × α)} (h : Rising t) (n : Nat) : Rising (removeAt t n) := List.Pairwise.filter _ h

end Sys2Proof.Laws
end

