-- ==== Sys2Proof/Laws/Ops.lean ====
section
/-! SUPPORT. What each shared operation does: ports and their queues, carrier contexts, holder lists, occupancies and
waits as they read after it. -/

namespace Sys2Proof.Laws

open Sys2Proof.Machine

variable (s : State)

/-! ### Ports -/

@[simp] theorem port_setPort_same (p : PortId) (x : Port) : (s.setPort p x).port p = x := by cases p <;> rfl

theorem port_setPort_other {p q : PortId} (x : Port) (h : q ≠ p) : (s.setPort p x).port q = s.port q := by
  cases p <;> cases q <;> first | rfl | exact absurd rfl h

@[simp] theorem setPort_port (p : PortId) : s.setPort p (s.port p) = s := by cases p <;> rfl

@[simp] theorem setPort_setPort (p : PortId) (x y : Port) : (s.setPort p x).setPort p y = s.setPort p y := by
  cases p <;> rfl

/-- A part-originated frame is admitted below 16 occupied places. -/
theorem offerOwn_admitted {p : PortId} (f : Frame) (h : (s.port p).outbound.length < 16) :
    offerOwn p f s = s.setPort p { s.port p with outbound := (s.port p).outbound ++ [f] } := by
  simp [offerOwn, Config.ownPlaces, h]

/-- A part-originated frame is dropped with OUT_OVERRUN otherwise. -/
theorem offerOwn_dropped {p : PortId} (f : Frame) (h : 16 ≤ (s.port p).outbound.length) :
    offerOwn p f s = s.raise p .outOverrun := by
  simp [offerOwn, Config.ownPlaces, Nat.not_lt.mpr h]

theorem offerForward_admitted {p : PortId} (f : Frame) (h : (s.port p).outbound.length < 12) :
    offerForward p f s = s.setPort p { s.port p with outbound := (s.port p).outbound ++ [f] } := by
  simp [offerForward, Config.forwardPlaces, h]

theorem offerForward_dropped {p : PortId} (f : Frame) (h : 12 ≤ (s.port p).outbound.length) :
    offerForward p f s = s.raise p .fwdDrop := by
  simp [offerForward, Config.forwardPlaces, Nat.not_lt.mpr h]

theorem offerInbound_admitted {p : PortId} (f : Frame) (h : (s.port p).inbound.length < 8) :
    offerInbound p f s = s.setPort p { s.port p with inbound := (s.port p).inbound ++ [f] } := by
  simp [offerInbound, Config.inboundPlaces, h]

theorem offerInbound_dropped {p : PortId} (f : Frame) (h : 8 ≤ (s.port p).inbound.length) :
    offerInbound p f s = s.raise p .inOverrun := by
  simp [offerInbound, Config.inboundPlaces, Nat.not_lt.mpr h]

/-- An offer leaves the other port as it was. -/
theorem offerOwn_otherPort {p q : PortId} (f : Frame) (h : q ≠ p) : (offerOwn p f s).port q = s.port q := by
  unfold offerOwn State.raise; split <;> exact port_setPort_other s _ h

theorem offerForward_otherPort {p q : PortId} (f : Frame) (h : q ≠ p) : (offerForward p f s).port q = s.port q := by
  unfold offerForward State.raise; split <;> exact port_setPort_other s _ h

/-! ### Frame commands -/

/-- A frame the classifier can take is handled at once, with its place in the inbound queue freed. -/
theorem takeFrame_ready {p : PortId} {f : Frame} (h : Ready p f s) (g : State → State) :
    takeFrame p f g s = g (dropFront p s) := by
  simp [takeFrame, h.1, h.2]

/-- A frame behind others joins the inbound queue. -/
theorem takeFrame_behind {p : PortId} {f : Frame} (h : s.pins.resetHeld = false) (hq : canTake p f s = false)
    (g : State → State) : takeFrame p f g s = offerInbound p f s := by
  simp [takeFrame, h, hq]

theorem takeFrame_held {p : PortId} {f : Frame} (h : s.pins.resetHeld = true) (g : State → State) :
    takeFrame p f g s = s := by
  simp [takeFrame, h]

theorem whileActive_active (h : s.pins.resetHeld = false) (g : State → State) : whileActive g s = g s := by
  simp [whileActive, h]

theorem whileActive_held (h : s.pins.resetHeld = true) (g : State → State) : whileActive g s = s := by
  simp [whileActive, h]

/-! ### Carrier contexts -/

/-- A change of one context leaves the others, and a VACANT slot stays VACANT. -/
theorem carrier_modifyCarrier (n m : Nat) (f : Carrier → Carrier) :
    (s.modifyCarrier n f).carrier m = if m = n ∧ s.admitted n = true then f (s.carrier n) else s.carrier m := by
  unfold State.modifyCarrier State.carrier State.admitted
  cases h : lookup s.carriers n with
  | none => simp
  | some c =>
    by_cases hm : m = n
    · subst hm; simp [lookup_insertAt]
    · simp [lookup_insertAt, hm]

theorem admitted_modifyCarrier (n m : Nat) (f : Carrier → Carrier) :
    (s.modifyCarrier n f).admitted m = s.admitted m := by
  unfold State.modifyCarrier State.admitted
  cases h : lookup s.carriers n with
  | none => rfl
  | some c =>
    by_cases hm : m = n
    · subst hm; simp [lookup_insertAt, h]
    · simp [lookup_insertAt, hm]

theorem carrier_putCarrier (n m : Nat) (c : Carrier) :
    (s.putCarrier n c).carrier m = if m = n then c else s.carrier m := by
  unfold State.putCarrier State.carrier
  by_cases hm : m = n <;> simp [lookup_insertAt, hm]

theorem carrier_vacate (n m : Nat) : (s.vacate n).carrier m = if m = n then Carrier.vacant else s.carrier m := by
  unfold State.vacate State.carrier
  by_cases hm : m = n <;> simp [lookup_removeAt, hm]

theorem admitted_vacate (n m : Nat) : (s.vacate n).admitted m = if m = n then false else s.admitted m := by
  unfold State.vacate State.admitted
  by_cases hm : m = n <;> simp [lookup_removeAt, hm]

/-! ### The Hold Table -/

/-- A stored hold record reads back, with direction none where its list is empty. -/
theorem hold_setHold (n m : Nat) (h : HoldRecord) :
    (s.setHold n h).hold m = if m = n then (if h.holders = [] then HoldRecord.free else h) else s.hold m := by
  unfold State.setHold State.hold
  split
  · by_cases hm : m = n <;> simp [lookup_removeAt, hm]
  · by_cases hm : m = n <;> simp [lookup_insertAt, hm]

theorem hold_setOccupied (z k m : Nat) : (s.setOccupied z k).hold m = s.hold m := by simp [State.hold]

theorem hold_modifyCarrier (n m : Nat) (f : Carrier → Carrier) : (s.modifyCarrier n f).hold m = s.hold m := by
  simp [State.hold]

theorem occupied_setOccupied (z k m : Nat) : (s.setOccupied z k).occupied m = if m = z then k else s.occupied m := by
  unfold State.setOccupied State.occupied
  split
  · by_cases hm : m = z <;> simp_all [lookup_removeAt]
  · by_cases hm : m = z <;> simp [lookup_insertAt, hm]

theorem occupied_setHold (n m : Nat) (h : HoldRecord) : (s.setHold n h).occupied m = s.occupied m := by
  simp [State.occupied]

/-- A carrier is appended to the holder list; the direction is the one that stands, or its own on a free section. -/
theorem hold_addHolder (n m : Nat) (e : RouteEntry) :
    (addHolder n e s).hold m =
      if m = e.sec then ⟨(s.hold e.sec).holders ++ [⟨n, .active⟩], some ((s.hold e.sec).direction.getD e.direction)⟩
      else s.hold m := by
  unfold addHolder
  dsimp only
  rw [hold_setHold]
  by_cases hm : m = e.sec
  · simp [hm]
  · simp only [hm, if_false]; split <;> simp [hold_setOccupied]

/-- A carrier's entry leaves the holder list; the others keep their order. -/
theorem holders_removeHolder (n sec m : Nat) :
    (removeHolder n sec s).1.holders m =
      if m = sec then (s.holders sec).filter (fun h => h.slot ≠ n) else s.holders m := by
  unfold removeHolder
  split
  · dsimp only
    have key : ∀ u : State, u = s.setHold sec ⟨(s.hold sec).holders.filter (fun h => h.slot ≠ n), (s.hold sec).direction⟩ →
        u.holders m = if m = sec then (s.holders sec).filter (fun h => h.slot ≠ n) else s.holders m := by
      intro u hu
      subst hu
      unfold State.holders
      rw [hold_setHold]
      by_cases hm : m = sec
      · subst hm
        simp only [if_true]
        split
        · rename_i h0; rw [h0]; rfl
        · rfl
      · simp [hm]
    split
    · unfold State.holders; rw [hold_setOccupied]; exact key _ rfl
    · exact key _ rfl
  · rename_i h
    by_cases hm : m = sec
    · subst hm
      simp only [if_true]
      refine (List.filter_eq_self.mpr ?_).symm
      intro x hx
      simp only [State.holdsSection, List.any_eq_true, not_exists, not_and, decide_eq_true_eq] at h
      simpa using h x hx
    · simp [hm]

/-- A hold changes state in place. -/
theorem holders_setHoldState (n sec m : Nat) (st : HoldState) :
    (setHoldState n sec st s).holders m =
      if m = sec then (s.holders sec).map (fun h => if h.slot = n then { h with state := st } else h)
      else s.holders m := by
  unfold setHoldState State.holders
  dsimp only
  rw [hold_setHold]
  by_cases hm : m = sec
  · subst hm
    simp only [if_true]
    split
    · rename_i h0; rw [h0]; rfl
    · rfl
  · simp [hm]

theorem hold_setDirection (sec m : Nat) (d : Direction) :
    (setDirection sec d s).hold m =
      if m = sec then (if (s.hold sec).holders = [] then HoldRecord.free else { s.hold sec with direction := some d })
      else s.hold m := by
  unfold setDirection; rw [hold_setHold]

/-! ### Waits and the Arbiter -/

/-- The wait list after a wait has ended. -/
theorem waits_endWait (n : Nat) : (endWait n s).waits = s.waits.filter (fun w => w.slot ≠ n) := by
  unfold endWait
  cases h : s.waitOf n with
  | some w => simp
  | none =>
    simp only
    refine (List.filter_eq_self.mpr ?_).symm
    intro w hw
    have := List.find?_eq_none.mp h w hw
    simpa using this

theorem waitOf_endWait (n : Nat) : (endWait n s).waitOf n = none := by
  unfold State.waitOf
  rw [waits_endWait]
  refine List.find?_eq_none.mpr ?_
  intro w hw
  simpa using (List.mem_filter.mp hw).2

/-- In a part that is not RUNNING a wake event finds no re-run (R105). -/
theorem wake_notRunning (ev : WakeEvent) (q : Option Nat) (h : s.partState ≠ .running) : wake ev q s = s := by
  simp [wake, h]

/-- A wake event that affects no waiter does nothing. -/
theorem wake_unaffected (ev : WakeEvent) (q : Option Nat) (h : affectedSlots s ev = []) : wake ev q s = s := by
  simp [wake, h, rerunAll]

/-- A hold the carrier does not have is not released. -/
theorem release_notHeld (n sec : Nat) (q : Option Nat) (h : s.holdsSection n sec = false) : release n sec q s = s := by
  simp [release, h]

/-! ### Changes of the Hold Table, each reported before the next -/

/-- A fold makes its changes in turn, where each keeps what the next rests on. -/
theorem inTurn_foldl {α : Type} {change : α → State → State → Prop} (act : α → State → State) (inv : State → Prop)
    (h : ∀ x u, inv u → change x u (act x u) ∧ inv (act x u)) (l : List α) (u : State) (hu : inv u) :
    InTurn change l u (l.foldl (fun s x => act x s) u) := by
  induction l generalizing u with
  | nil => rfl
  | cons x l ih => exact ⟨act x u, (h x u hu).1, ih (act x u) (h x u hu).2⟩

/-- Releases one after another are the fold of a release. -/
theorem releaseAll_eq_foldl (n : Nat) (q : Option Nat) (secs : List Nat) :
    releaseAll n q secs s = secs.foldl (fun s sec => release n sec q s) s := by
  induction secs generalizing s with
  | nil => rfl
  | cons sec secs ih => exact ih (release n sec q s)

/-- What a change of a hold's state in place does, where the section has a holder. -/
theorem setHoldState_turned (n sec : Nat) (st : HoldState) (h : s.holders sec ≠ []) :
    HoldTurned n sec st (s.hold sec).direction s (setHoldState n sec st s) := by
  have hs : setHoldState n sec st s = { s with holds := insertAt s.holds sec { s.hold sec with
      holders := (s.hold sec).holders.map (fun x => if x.slot = n then { x with state := st } else x) } } := by
    unfold setHoldState State.setHold
    exact if_neg (by simpa [State.holders] using h)
  rw [hs]
  refine ⟨?_, ?_, rfl, rfl, rfl, rfl, rfl, ⟨rfl, rfl, rfl⟩, ⟨rfl, rfl, rfl, rfl, rfl, rfl⟩, ⟨rfl, rfl, rfl, rfl, rfl⟩⟩
  · simp [State.hold, State.holders, lookup_insertAt]
  · intro k hk
    simp [State.hold, lookup_insertAt, hk]

end Sys2Proof.Laws
end

