-- ==== Sys2Proof/WellFormed.lean ====
section
/-! DEFINITION. Which commands can exist: a frame's body is at most 240 bytes (R155) and a slot is 1 to 64 (R21). -/

namespace Sys2Proof

/-- The most bytes of a frame body (R155). -/
def maxBody : Nat := 240

/-- An MGMT body is the code, the tag and the parameters, at most 240 bytes (R155, R158). -/
def Mgmt.wf (m : Mgmt) : Bool := m.params.length + 2 ≤ maxBody

/-- A ROUTE body is at most 240 bytes (R155). -/
def RouteOrder.wf (o : RouteOrder) : Bool := o.body.length ≤ maxBody

/-- Slots are numbered 1 to 64 (R21). -/
def slotWf (slot : Nat) : Bool := 1 ≤ slot ∧ slot ≤ Config.maxSlot

/-- The check of a command's operands. -/
def Instr.wf : Instr → Bool
  | .powerOn _ _ => true
  | .resetInputAssert => true
  | .frameReceive _ _ => true
  | .portCClassify => true
  | .portDClassify => true
  | .frameTransmitEnd _ => true
  | .moveReq _ => true
  | .cutbackAck _ => true
  | .rejoin _ => true
  | .route o => o.wf
  | .sectionLoad m => m.wf
  | .zoneLoad m => m.wf
  | .sectionOpen m => m.wf
  | .sectionClose m => m.wf
  | .zoneOpen m => m.wf
  | .zoneClose m => m.wf
  | .conflictAdd m => m.wf
  | .conflictRemove m => m.wf
  | .carrierAdmit m => m.wf
  | .carrierRetire m => m.wf
  | .carrierClear m => m.wf
  | .carrierRecall m => m.wf
  | .carrierQuery m => m.wf
  | .sectionQuery m => m.wf
  | .partQuery m => m.wf
  | .paramsSet m => m.wf
  | .start m => m.wf
  | .halt m => m.wf
  | .resetTraffic _ => true
  | .resetFull _ => true
  | .cycleEvent => true
  | .probe slot => slotWf slot
  | .silenceLimit slot => slotWf slot
  | .holdLimitExpiry slot => slotWf slot
  | .cutbackTimeout slot => slotWf slot
  | .syncByte _ _ => true

end Sys2Proof
end

