-- ==== Sys2Proof/Tests/Slice0.lean ====
section
/-! SUPPORT. Tests: what WellFormed refuses, worked examples of the spec over one command each, and for every statement
with hypotheses a witness, a concrete state and operands that meet them. -/

namespace Sys2Proof.Tests

open Sys2Proof Sys2Proof.Machine

/-! ### A small floor -/

/-- A lane driven both ways. -/
def lane (fromNode toNode length speedLimit zone : Nat) (chain : List ConflictRecord) (isOpen : Bool) : SectionEntry :=
  ⟨⟨.lane, fromNode, toNode, length, speedLimit, 2, .both, zone⟩, isOpen, chain⟩

/-- The parameters of the carriers of spec/05, case 1. -/
def params : AdmissionParams := ⟨1, false, 2000, 500, 400, 1, 10, 2⟩

/-- An entry driven FWD. -/
def fwd (sec : Nat) : RouteEntry := ⟨sec, .fwd⟩

/-- Slot 2 of spec/05, case 1: head at index 0 in section 10. -/
def driver : Carrier :=
  { Carrier.vacant with
    state := .active
    station := 0x102
    params := params
    routeNumber := 7
    route := [fwd 10, fwd 11, fwd 12]
    headSection := 10
    remaining := 1200
    lastSequence := some 10
    effectivePriority := 1 }

/-- An IDLE carrier at section 13. -/
def idler : Carrier :=
  { Carrier.vacant with
    state := .idle
    station := 0x103
    params := params
    headSection := 13
    effectivePriority := 1 }

/-- Sections 10, 11 and 12 in a line, 12 in zone 1 and in conflict with 13; 14 is closed. Slot 2 stands in 10, slot 3 in
13. -/
def floor : State :=
  { State.reset with
    sections := [(10, lane 1 2 2000 2500 0 [] true), (11, lane 2 3 2000 2500 0 [] true),
      (12, lane 3 4 1500 2500 1 [⟨1, 13, .wide⟩] true), (13, lane 4 9 1000 2500 0 [⟨2, 12, .wide⟩] true),
      (14, lane 4 5 1000 2500 0 [] false)]
    zones := [(1, ⟨2, true⟩)]
    freeRecords := [3, 4, 5]
    holds := [(10, ⟨[⟨2, .active⟩], some .fwd⟩), (13, ⟨[⟨3, .active⟩], some .fwd⟩)]
    carriers := [(2, driver), (3, idler)]
    cycle := 1000
    timerRunning := true
    partState := .running }

/-- The floor with another context in slot 2. -/
def withDriver (c : Carrier) (s : State) : State := { s with carriers := [(2, c), (3, idler)] }

/-- Slot 2 holds section 11 ahead as well. -/
def ahead : State :=
  { withDriver { driver with limit := 1 } floor with
    holds := [(10, ⟨[⟨2, .active⟩], some .fwd⟩), (11, ⟨[⟨2, .active⟩], some .fwd⟩), (13, ⟨[⟨3, .active⟩], some .fwd⟩)] }

/-- The cutback record of `recalled`. -/
def record (timeout : Nat) : CutbackRecord := ⟨1, 0, timeout, cutbackOf ahead 2 1 0⟩

/-- Slot 2 has been asked for section 11. -/
def recalled (timeout : Nat) : State :=
  { withDriver { driver with limit := 1, cutbackNumber := 1, cutback := some (record timeout) } floor with
    holds := [(10, ⟨[⟨2, .active⟩], some .fwd⟩), (11, ⟨[⟨2, .recalling⟩], some .fwd⟩),
      (13, ⟨[⟨3, .active⟩], some .fwd⟩)] }

/-- Slot 2 has fallen silent with its sections. -/
def lost : State :=
  { withDriver { driver with limit := 1, state := .lost, lostCause := .silent } floor with
    holds := [(10, ⟨[⟨2, .frozen⟩], some .fwd⟩), (11, ⟨[⟨2, .frozen⟩], some .fwd⟩), (13, ⟨[⟨3, .active⟩], some .fwd⟩)] }

/-- A waiter in slot 4 that wants section 11 of slot 2. -/
def waiting : State :=
  { ahead with
    carriers := [(2, { driver with limit := 1, requestedSpeed := 0, holdIdle := 20 }), (3, idler),
      (4, { driver with station := 0x104, route := [fwd 14, ⟨11, .rev⟩], headSection := 14, passedOver := 2 })]
    waits := [⟨4, 1, 11, .capacity, some 2⟩] }

/-- A halted part. -/
def halted (s : State) : State := { s with partState := .halted, haltCause := .command }

/-- A part that has not been started. -/
def unconfigured : State := { State.reset with sections := floor.sections, zones := floor.zones }

/-- A management command of the dispatch server. -/
def mgmt (ps : List Byte) : Mgmt := ⟨1, 5, 9, ps⟩

/-- A report of slot 2 on its route. -/
def report (head trail : Byte) (remaining speed : Half) : MoveReq := ⟨0x102, 11, 7, head, remaining, trail, speed⟩

/-- A frame is taken at once by a part whose queues are empty. -/
theorem ready_of_empty (p : PortId) (f : Frame) (s : State) (h : s.pins.resetHeld = false) (e : (s.port p).inbound = []) :
    Ready p f s := by
  refine And.intro h ?_
  unfold canTake
  rw [e]

/-! ### Well-formed commands -/

/-- 239 parameter bytes make a body of 241; every management command refuses them. -/
theorem test_wf_params_too_long :
    let m := mgmt (List.replicate 239 0)
    [Instr.sectionLoad m, .zoneLoad m, .sectionOpen m, .sectionClose m, .zoneOpen m, .zoneClose m, .conflictAdd m,
      .conflictRemove m, .carrierAdmit m, .carrierRetire m, .carrierClear m, .carrierRecall m, .carrierQuery m,
      .sectionQuery m, .partQuery m, .paramsSet m, .start m, .halt m].all (fun i => !i.wf) = true := by decide +kernel

theorem test_wf_params_longest : (Instr.start (mgmt (List.replicate 238 0))).wf = true := by decide +kernel
theorem test_wf_route_too_long : (Instr.route ⟨0x102, 1, 0, List.replicate 241 0⟩).wf = false := by decide +kernel
theorem test_wf_route_longest : (Instr.route ⟨0x102, 1, 0, List.replicate 240 0⟩).wf = true := by decide +kernel

theorem test_wf_slots_outside :
    [Instr.probe 0, .silenceLimit 0, .holdLimitExpiry 65, .cutbackTimeout 65].all (fun i => !i.wf) = true := by decide

theorem test_wf_slot_last : (Instr.holdLimitExpiry 64).wf = true := by decide

/-! ### Worked examples -/

/-- R147: over the ASCII digits 1 to 9 the check is 0x29B1. -/
theorem test_crc_check_value : crc [0x31, 0x32, 0x33, 0x34, 0x35, 0x36, 0x37, 0x38, 0x39] = 0x29B1 := by decide +kernel

/-- The table of needs in spec/05, decel 500, reaction 400, margin 300. -/
theorem test_needs_of_spec_05 :
    [0, 500, 1000, 1500, 2000, 2500, 3000].map (stoppingNeed 500 400 300) = [300, 750, 1700, 3150, 5100, 7550, 10500] := by
  decide

/-- Spec/05, case 2: braking from 750 mm/s takes 563 mm, rounded up. -/
theorem test_braking_rounds_up : brakingDistance 500 750 = 563 := by decide

/-- The outcome of a command as a state. -/
def after (i : Instr) (s : State) : State :=
  match exec i s with
  | .next t => t
  | _ => s

/-- Limit index, limit distance, permitted speed and reason of the last answer to slot 2. -/
def grantSeen (s : State) : List Nat :=
  match (s.carrier 2).lastAnswer with
  | some f => [numAt f.body 2, numAt2 f.body 3, numAt2 f.body 5, numAt f.body 9]
  | none => []

/-- Spec/05, case 1: limit 1, distance 3200, speed 1500, reason NONE. -/
theorem test_case_1 : grantSeen (after (.moveReq (report 0 0 1200 1500)) floor) = [1, 3200, 1500, 0] := by decide

/-- Spec/05, case 2: section 11 held by slot 6 in REV; limit 0, distance 1200, speed 750, reason WAITING. -/
theorem test_case_2 :
    let s := { floor with holds := [(10, ⟨[⟨2, .active⟩], some .fwd⟩), (11, ⟨[⟨6, .active⟩], some .rev⟩)] }
    grantSeen (after (.moveReq (report 0 0 1200 1500)) s) = [0, 1200, 750, 2] ∧
      (after (.moveReq (report 0 0 1200 1500)) s).waits = [⟨2, 1, 11, .capacity, some 6⟩] := by decide

/-- Spec/05, case 3: section 11 allows 1000; speed 1000, reason REDUCED. -/
theorem test_case_3 :
    let s := { floor with sections := insertAt floor.sections 11 (lane 2 3 2000 1000 0 [] true) }
    grantSeen (after (.moveReq (report 0 0 1200 1500)) s) = [1, 3200, 1000, 1] := by decide

/-- R81: the expiry is the cycle number plus the lifetime, mod 4096. -/
theorem test_expiry_wraps :
    ((after (.moveReq (report 0 0 1200 1500)) { floor with cycle := 4090 }).carrier 2).lastAnswer.map
      (fun f => numAt2 f.body 7) = some 4 := by decide

/-- Spec/07, the close of a section held ahead: target before it, holds RECALLING, timeout 5. -/
theorem test_close_begins_cutback :
    let t := after (.sectionClose (mgmt (bytes2 11))) ahead
    ((t.carrier 2).cutback.map (fun k => (k.number, k.target, k.timeout)) = some (1, 0, 5)) ∧
      t.holdStateOf 2 11 = some .recalling := by decide

/-- Spec/08, supervision select 1 (limit 5): the PROBE of cycle 701 at counter 2 says 3 events are left. -/
theorem test_probe_at_half :
    let s := withDriver { driver with silence := 1 } { floor with cycle := 700 }
    (cycleEvent (fun _ => .beforeTimeouts) s).portC.outbound.map (fun f => (f.kind, f.body)) =
      [(0x34, [2, 189, 1, 0]), (0x33, [2, 189, 3])] := by decide

/-- Spec/02, a clear: the named head is held ACTIVE, the rest is free, the cause is gone. -/
theorem test_clear_releases_rest :
    let t := after (.carrierClear (mgmt ([2] ++ bytes2 11 ++ [1, 0]))) lost
    (t.carrier 2).state = .idle ∧ (t.carrier 2).lostCause = .none ∧ t.holds.map (fun e => e.1) = [11, 13] ∧
      t.holdStateOf 2 11 = some .active := by decide

/-- R39 and R102: a waiter that the kept section 10 wakes takes section 11 before the cleared carrier is appended there. -/
theorem test_clear_keeps_before_it_takes :
    let s := { lost with
      holds := [(10, ⟨[⟨2, .frozen⟩], some .fwd⟩), (14, ⟨[⟨4, .active⟩], some .fwd⟩)]
      carriers := [(2, { driver with state := .lost }), (4, { driver with
        station := 0x104, route := [fwd 14, fwd 10, fwd 11], headSection := 14, remaining := 0, requestedSpeed := 2000 })]
      waits := [⟨4, 1, 10, .recall, some 2⟩] }
    let t := after (.carrierClear (mgmt ([2] ++ bytes2 11 ++ [1, 1] ++ bytes2 10 ++ [1]))) s
    t.holders 10 = [⟨2, .active⟩, ⟨4, .active⟩] ∧ t.holders 11 = [⟨4, .active⟩, ⟨2, .active⟩] := by decide

/-- Log entry 25: where the woken waiter would take the last place of section 11, which the clear names, the clear has it. -/
theorem test_clear_keeps_what_it_names :
    let s := { lost with
      sections := insertAt lost.sections 11 ⟨⟨.cell, 2, 3, 2000, 2500, 1, .both, 0⟩, true, []⟩
      holds := [(10, ⟨[⟨2, .frozen⟩], some .fwd⟩), (14, ⟨[⟨4, .active⟩], some .fwd⟩)]
      carriers := [(2, { driver with state := .lost }), (4, { driver with
        station := 0x104, route := [fwd 14, fwd 10, fwd 11], headSection := 14, remaining := 0, requestedSpeed := 2000 })]
      waits := [⟨4, 1, 10, .recall, some 2⟩] }
    let t := after (.carrierClear (mgmt ([2] ++ bytes2 11 ++ [1, 1] ++ bytes2 10 ++ [1]))) s
    obstacle (keepHolds 2 [fwd 10] s) 2 false (fwd 11) ≠ none ∧
      t.holders 10 = [⟨2, .active⟩, ⟨4, .active⟩] ∧ t.holders 11 = [⟨2, .active⟩] := by decide

/-- R40 and R102: the waiter for section 10 is woken at its release, and no entry names the retired slot afterwards. -/
theorem test_retire_wakes_and_strikes :
    let s := { ahead with
      holds := [(10, ⟨[⟨2, .active⟩], some .fwd⟩), (11, ⟨[⟨2, .active⟩], some .fwd⟩), (14, ⟨[⟨4, .active⟩], some .fwd⟩)]
      carriers := [(2, { driver with limit := 1 }), (4, { driver with
        station := 0x104, route := [fwd 14, ⟨10, .rev⟩], headSection := 14, remaining := 0, requestedSpeed := 2000 })]
      waits := [⟨4, 1, 10, .capacity, some 2⟩] }
    let t := after (.carrierRetire (mgmt [2])) s
    t.holders 10 = [⟨4, .active⟩] ∧ t.holders 11 = [] ∧ t.waits = [] := by decide

/-- R118: a close triggers a cutback for every ahead section that is now closed, section 11 here, which no close names. -/
theorem test_close_finds_earlier_closed :
    let s := { ahead with sections := insertAt ahead.sections 11 (lane 2 3 2000 2500 0 [] false) }
    ((after (.sectionClose (mgmt (bytes2 13))) s).carrier 2).cutback.map (fun k => k.target) = some 0 := by decide

/-- R152: with 16 places occupied a BEACON is dropped and OUT_OVERRUN is set; the cycle advances all the same. -/
theorem test_beacon_dropped :
    let s := { floor with carriers := [], portC := { Port.empty with outbound := List.replicate 16 ⟨1, 2, 3, 4, []⟩ } }
    let t := cycleEvent (fun _ => .afterTimeouts) s
    t.portC.outbound.length = 16 ∧ t.portC.flags.outOverrun = true ∧ t.cycle = 1001 := by decide

/-- R109 and R110: two carriers that wait for each other; the second enters no wait. -/
theorem test_deadlock_enters_no_wait :
    let s := { floor with waits := [⟨3, 1, 10, .capacity, some 2⟩] }
    (enterWait ⟨2, 1, 13, .capacity, some 3⟩ s).2 = .deadlock ∧
      (enterWait ⟨2, 1, 13, .capacity, some 3⟩ s).1.waits.length = 1 := by decide

/-! ### Witnesses: the hypotheses of each statement can be met, clause by clause -/

/-- Any frame is ready on the floor and on the states made from it. -/
theorem witness_ready (p : PortId) (f : Frame) :
    Ready p f floor ∧ Ready p f ahead ∧ Ready p f (recalled 5) ∧ Ready p f lost ∧ Ready p f waiting ∧
      Ready p f (halted floor) ∧ Ready p f unconfigured := by
  refine ⟨?_, ?_, ?_, ?_, ?_, ?_, ?_⟩ <;> exact ready_of_empty p f _ rfl (by cases p <;> rfl)

/-- A canonical floor. -/
theorem witness_canonical : floor.TablesCanonical ∧ lost.TablesCanonical := by
  constructor <;> constructor <;> decide

/-- A frame waits at the front of each port. -/
def queued (f : Frame) : State :=
  { floor with portC := { Port.empty with inbound := [f] }, portD := { Port.empty with inbound := [f] } }

theorem witness_StepRunsFrontCommand :
    ({ floor with pending := [.cycleEvent] }).pending = .cycleEvent :: [] ∧ floor.pending = [] := by decide

theorem witness_PowerOnAndResetInput :
    ({ floor with pins := ⟨0, 0, true⟩ }).pins.resetHeld = true ∧ ∀ a b, Instr.cycleEvent ≠ .powerOn a b :=
  ⟨rfl, fun _ _ h => by cases h⟩

theorem witness_FrameBytesAreReceivedWhole :
    let f : Frame := ⟨0xFE00, 0x102, 0x21, 11, List.replicate 240 0xC3⟩
    floor.pins.resetHeld = false ∧ f.body.length ≤ 240 ∧ (floor.port .c).rx = .hunting ∧
      (floor.port .c).inbound.length < 8 ∧
      8 ≤ (({ floor with portC := { Port.empty with inbound := List.replicate 8 f } }).port .c).inbound.length := by
  decide +kernel

theorem witness_LineEventsMoveOneByteOrFrame :
    let rx (r : RxState) : Port := { Port.empty with rx := r }
    let payload : List Byte := [0xFE, 0, 1, 2, 0x23, 5]
    Port.empty.rx = .hunting ∧ (0xC2 : Byte) ≠ 0xC3 ∧ (rx .lengthNext).rx = .lengthNext ∧ 6 ≤ (6 : Byte).toNat ∧
      (246 : Byte).toNat ≤ 246 ∧ (rx (.taking 2 [])).rx = .taking (0 + 2) [] ∧ (5 : Byte).toNat < 6 ∧
      246 < (247 : Byte).toNat ∧ 6 ≤ payload.length ∧ payload.length ≤ 246 ∧ 0 ≠ crc payload ∧
      exec (.syncByte .c 0xC2) floor = .next floor ∧
      ({ floor with portC := { Port.empty with outbound := [⟨1, 2, 3, 4, []⟩] } }.port .c).outbound =
        ⟨1, 2, 3, 4, []⟩ :: [] := by
  refine ⟨?_, ?_, ?_, ?_, ?_, ?_, ?_, ?_, ?_, ?_, ?_, rfl, rfl⟩ <;> decide +kernel

theorem witness_PortCIsSortedByR149 :
    let f (dest : Station) (kind : Byte) (n : Nat) : Frame := ⟨dest, 0x999, kind, 0, List.replicate n 0⟩
    (∀ g, (queued g).pins.resetHeld = false ∧ (queued g).portC.inbound = g :: []) ∧ floor.partStation = 0xFE00 ∧
      (f 0xFE00 0x21 6).body.length ≠ 7 ∧ (f 0xFE00 0x22 2).body.length = 2 ∧
      (queued (f 0xFE00 0x22 2)).slotOf 0x999 = none ∧
      moveReqFrame (report 0 0 0 0) floor.partStation = ⟨0xFE00, 0x102, 0x21, 11, [7, 0, 0, 0, 0, 0, 0]⟩ ∧
      (0x51 : Byte) ∈ [(0x31 : Byte), 0x32, 0x33, 0x34, 0x52, 0x53, 0x41, 0x51] ∧
      (0x60 : Byte) ∉ [(0x31 : Byte), 0x32, 0x33, 0x34, 0x52, 0x53, 0x41, 0x51] ∧ (0x0001 : Station) ≠ 0xFE00 := by
  refine ⟨fun _ => ⟨rfl, rfl⟩, ?_⟩
  decide

theorem witness_PortDIsSortedByR150 :
    (∀ g, (queued g).pins.resetHeld = false ∧ (queued g).portD.inbound = g :: []) ∧
      (⟨0xFE00, 1, 0x51, 0, [1]⟩ : Frame).body.length < 2 ∧
      (⟨0xFE00, 1, 0x51, 5, [0x14, 9]⟩ : Frame) = mgmtFrame (mgmt []) 0x14 floor.partStation ∧ 0x13 < (0x14 : Byte).toNat ∧
      (⟨0x102, 1, 0x41, 0, [7, 0]⟩ : Frame) = routeFrame ⟨0x102, 1, 0, [7, 0]⟩ ∧
      (0x53 : Byte) ∈ [(0x21 : Byte), 0x22, 0x23, 0x31, 0x32, 0x33, 0x34, 0x52, 0x53] ∧
      (0x60 : Byte) ∉ [(0x21 : Byte), 0x22, 0x23, 0x31, 0x32, 0x33, 0x34, 0x52, 0x53] := by
  refine ⟨fun _ => ⟨rfl, rfl⟩, ?_⟩
  decide

theorem witness_FrameRowsStandForTheirFrames :
    let f : Frame := ⟨0xFE00, 1, 0x51, 5, [0x11, 9]⟩
    let g : Frame := ⟨0xFE00, 1, 0x51, 5, [0x12, 9]⟩
    let full := { floor with portD := { Port.empty with inbound := List.replicate 8 g } }
    frameOf floor.partStation (.start (mgmt [])) = some (.d, f) ∧ (queued f).pins.resetHeld = false ∧
      ((queued f).port .d).inbound.head? = some f ∧ ((queued g).port .d).inbound ≠ [] ∧
      ((queued g).port .d).inbound.head? ≠ some f ∧ ((queued g).port .d).inbound.length < 8 ∧
      (full.port .d).inbound.head? ≠ some f ∧ 8 ≤ (full.port .d).inbound.length := by
  decide

/-- Boundary lengths of the parameters: one short, one long, and a count above the most. -/
theorem witness_WrongLengthsAreRefused (code : Byte) (m : Mgmt) :
    MgmtReady code m floor ∧ (mgmt [0, 1]).params.length < 3 ∧ (mgmt [0, 1, 1]).params.length ≠ 3 + 12 * 1 ∧
      19 < ((mgmt [0, 1, 20]).params.getD 2 0).toNat ∧ (mgmt [0, 2, 5]).params.length ≠ 2 + 2 ∧
      (mgmt []).params.length ≠ 1 ∧ (mgmt [0, 1, 1, 1, 1]).params.length ≠ 4 :=
  ⟨(witness_ready .d _).1, by decide⟩

/-- A record for the new section 15, and one that would change section 10, which is referenced. -/
def newRecord : SectionRecord := ⟨.cell, 5, 6, 100, 4000, 1, .both, 1⟩

/-- Good records at the ends of the ranges, and one that fails each check of R4. -/
theorem witness_SectionLoadChecksAndAppliesARecord :
    (∀ m, MgmtReady 0x01 m floor) ∧ (mgmt (bytes2 1023 ++ [1] ++ newRecord.bytes)).params.length = 15 ∧
      newRecord.fieldsInRange = true ∧ newRecord.capacityFits = true ∧ ({ newRecord with length := 99 }).fieldsInRange = false ∧
      ({ newRecord with capacity := 2 }).capacityFits = false ∧ ({ newRecord with capacity := 2 }).capacity < 256 ∧
      (newRecord.zone = 0 ∨ (lookup floor.zones newRecord.zone).isSome = true) ∧ (lookup floor.zones 63).isSome = false ∧
      lookup floor.sections 15 = none ∧
      floor.referenced 15 = false ∧ lookup floor.sections 10 = some (lane 1 2 2000 2500 0 [] true) ∧
      floor.referenced 10 = true ∧ (lane 1 2 2000 2500 0 [] true).data ≠ newRecord ∧
      lookup floor.sections 14 = some (lane 4 5 1000 2500 0 [] false) ∧ floor.referenced 14 = false ∧
      byteAt ([3, 255, 1, 3] ++ List.replicate 11 0) 3 ∉ [(0x01 : Byte), 0x02] :=
  ⟨fun _ => (witness_ready .d _).1, by decide⟩

/-- Two records, of which the second would fall on section 1024, and none. -/
theorem witness_SectionLoadAppliesRecordsInOrder :
    (∀ m, MgmtReady 0x01 m floor) ∧
      (let m := mgmt ([3, 255, 2] ++ newRecord.bytes ++ newRecord.bytes)
      3 ≤ m.params.length ∧ m.params.length = 3 + 12 * numAt m.params 2 ∧ numAt m.params 2 ≤ 19 ∧
        recordAt m.params 3 = some newRecord ∧ checkSection floor 1023 (some newRecord) = none ∧
        checkSection floor 1024 (some newRecord) = some .badValue) ∧
      (mgmt [0, 1, 0]).params.length = 3 + 12 * numAt (mgmt [0, 1, 0]).params 2 :=
  ⟨fun _ => (witness_ready .d _).1, by decide⟩

theorem witness_ZoneLoadAppliesRecordsInOrder :
    let s := { floor with occupancy := [(1, 2)] }
    (∀ m, MgmtReady 0x02 m s) ∧ (mgmt [1, 1, 2]).params.length = 3 ∧ numAt (mgmt [1, 1, 2]).params 1 = 1 ∧
      63 < numAt [64, 1, 2] 0 ∧ 64 < numAt [1, 1, 65] 2 ∧ 1 < s.occupied 1 ∧ lookup s.zones 63 = none ∧
      s.occupied 63 ≤ 64 ∧ lookup s.zones 1 = some ⟨2, true⟩ ∧ s.occupied 1 ≤ 2 ∧ (2 : Nat) < 3 ∧
      (mgmt [1, 0]).params.length = 2 + numAt (mgmt [1, 0]).params 1 ∧
      (mgmt [1, 3, 3, 64, 0]).params.length = 2 + numAt (mgmt [1, 3, 3, 64, 0]).params 1 :=
  ⟨fun _ => ready_of_empty .d _ _ rfl rfl, by decide⟩

/-- Sections: 0 and 1024 are no numbers, 1023 is not loaded, 14 is closed, 10 open; zones 64, 63, 2 and 1 likewise. -/
theorem witness_OpeningsReportToArbiter :
    let s := { floor with zones := [(1, ⟨2, false⟩), (2, ⟨2, true⟩)] }
    (∀ m, MgmtReady 0x03 m floor ∧ MgmtReady 0x07 m s) ∧ (mgmt (bytes2 1024)).params.length = 2 ∧
      1023 < numAt2 (bytes2 1024) 0 ∧ numAt2 (bytes2 1023) 0 = 1023 ∧ lookup floor.sections 1023 = none ∧
      (lookup floor.sections 10).map (fun e => e.isOpen) = some true ∧
      (lookup floor.sections 14).map (fun e => e.isOpen) = some false ∧ (s.carrier 2).inTrail 12 = false ∧
      s.zoneIsOpen 12 = false ∧ (mgmt [64]).params.length = 1 ∧ 63 < numAt [64] 0 ∧ lookup s.zones 63 = none ∧
      lookup s.zones 2 = some ⟨2, true⟩ ∧ lookup s.zones 1 = some ⟨2, false⟩ :=
  ⟨fun _ => ⟨(witness_ready .d _).1, ready_of_empty .d _ _ rfl rfl⟩, by decide⟩

/-- The clauses on the traffic: slot 4 waits for section 11 with no cutback in flight, slot 2 holds 11 ahead. -/
theorem witness_SectionCloseTurnsAway :
    (∀ m, MgmtReady 0x04 m waiting) ∧ (mgmt (bytes2 11)).params.length = 2 ∧
      (waiting.waits.map (fun w => w.slot)).Nodup ∧ lookup waiting.sections 1023 = none ∧
      (lookup waiting.sections 14).map (fun e => e.isOpen) = some false ∧
      (lookup waiting.sections 11).map (fun e => e.isOpen) = some true ∧ waiting.partState = .running ∧
      (∃ w ∈ waiting.waits, w.wantedSection = 11 ∧ (waiting.carrier w.slot).inTrail 11 = false ∧
        waiting.admitted w.slot = true ∧ (waiting.carrier w.slot).cutback = none) ∧
      (waiting.carrier 2).route[1]? = some (fwd 11) ∧ (halted waiting).partState ≠ .running :=
  ⟨fun _ => (witness_ready .d _).2.2.2.2.1, by decide⟩

/-- The cases of a close trigger: section 11 ahead of slot 2 is closed, with no cutback in flight, with one to a higher
target, and with one to the same; or nothing ahead is closed. -/
theorem witness_ClosedBefore :
    let v := { ahead with sections := insertAt ahead.sections 11 (lane 2 3 2000 2500 0 [] false) }
    FirstClosedAhead v (ahead.carrier 2) 1 ∧ (ahead.carrier 2).cutback = none ∧
      1 - 1 < ({ record 5 with target := 1 }).target ∧ (recalled 5).carrier 2 = { ahead.carrier 2 with
        cutbackNumber := 1, cutback := some (record 5) } ∧ (record 5).target ≤ 1 - 1 ∧
      ∀ i, ¬FirstClosedAhead ahead (ahead.carrier 2) i := by
  refine ⟨⟨⟨by decide, by decide, fwd 11, by decide, by decide⟩, fun j hj h => ?_⟩, by decide, by decide, by decide, by decide,
    fun i h => ?_⟩
  · exact absurd h.1 (by rw [show (ahead.carrier 2).head = 0 from rfl]; omega)
  · obtain ⟨⟨h1, h2, e, h3, h4⟩, -⟩ := h
    rw [show (ahead.carrier 2).head = 0 from rfl] at h1
    rw [show (ahead.carrier 2).limit = 1 from rfl] at h2
    have hi : i = 1 := by omega
    subst hi
    have he : fwd 11 = e := Option.some.inj h3
    subst he
    exact absurd h4 (by decide)

theorem witness_ZoneCloseTurnsAway :
    let s := { waiting with zones := [(1, ⟨2, true⟩), (63, ⟨1, false⟩)] }
    (∀ m, MgmtReady 0x08 m s) ∧ (mgmt [1]).params.length = 1 ∧ (s.waits.map (fun w => w.slot)).Nodup ∧
      lookup s.zones 2 = none ∧ lookup s.zones 63 = some ⟨1, false⟩ ∧ lookup s.zones 1 = some ⟨2, true⟩ :=
  ⟨fun _ => ready_of_empty .d _ _ rfl rfl, by decide⟩

/-- Pairs (10, 11) unrelated, (12, 13) related; a full chain, an empty pool, and a pair two carriers stand on. -/
theorem witness_ConflictAddLinksThePair :
    let crowded := lane 1 2 2000 2500 0 (List.replicate 16 ⟨9, 900, .always⟩) true
    let full := { floor with sections := insertAt floor.sections 10 crowded }
    (∀ m, MgmtReady 0x05 m floor) ∧ (mgmt [0, 10, 0, 11, 1]).params.length = 5 ∧
      byteAt [0, 10, 0, 11, 1] 4 = ConflictCondition.always.code ∧ byteAt [0, 10, 0, 11, 3] 4 ∉ [(1 : Byte), 2] ∧ lookup floor.sections 1023 = none ∧
      (∃ x ∈ floor.holders 10, ∃ y ∈ floor.holders 13, x.slot ≠ y.slot ∧
        ConflictCondition.always.applies (floor.wide x.slot) (floor.wide y.slot) = true) ∧
      (∀ x ∈ floor.holders 10, ∀ y ∈ floor.holders 11, x.slot ≠ y.slot →
        ConflictCondition.always.applies (floor.wide x.slot) (floor.wide y.slot) = false) ∧
      (∀ r ∈ floor.chainOf 10, r.other ≠ 11) ∧ ({ floor with freeRecords := [3] }).freeRecords.length < 2 ∧
      (full.chainOf 10).length = 16 ∧ floor.freeRecords = 3 :: 4 :: [5] ∧
      floor.conflictBetween 12 13 = some ⟨1, 13, .wide⟩ ∧
      (∀ x ∈ floor.holders 12, ∀ y ∈ floor.holders 13, x.slot ≠ y.slot →
        ConflictCondition.always.applies (floor.wide x.slot) (floor.wide y.slot) = false) :=
  ⟨fun _ => (witness_ready .d _).1, by decide⟩

theorem witness_ConflictRemoveGivesRecordsBack :
    (∀ m, MgmtReady 0x06 m floor) ∧ (mgmt [0, 12, 0, 13]).params.length = 4 ∧ numAt2 [0, 12, 0, 13] 0 = 12 ∧
      lookup floor.sections 1023 = none ∧ floor.conflictBetween 10 11 = none ∧
      floor.conflictBetween 12 13 = some ⟨1, 13, .wide⟩ ∧ floor.conflictBetween 13 12 = some ⟨2, 12, .wide⟩ ∧
      (lookup floor.sections 12).isSome = true ∧ (lookup floor.sections 13).isSome = true :=
  ⟨fun _ => (witness_ready .d _).1, by decide⟩

/-- Slot 2 in sections 11 and 12, the second in zone 1, with trail 11 and one release short of its progress interval. -/
def arrived : State :=
  { withDriver { driver with head := 2, limit := 2, headSection := 12, trail := [fwd 11], releases := 1 } floor with
    holds := [(11, ⟨[⟨2, .active⟩], some .fwd⟩), (12, ⟨[⟨2, .active⟩], some .fwd⟩), (13, ⟨[⟨3, .active⟩], some .fwd⟩)]
    occupancy := [(1, 1)] }

theorem witness_TrimmingReleasesOldestFirst :
    Rising arrived.holds ∧ arrived.holdsSection 2 12 = true ∧ arrived.holdsSection 3 12 = false ∧ arrived.zoneOf 12 ≠ 0 ∧
      arrived.zoneOf 11 = 0 ∧ arrived.admitted 2 = true ∧ trailTrimmed [fwd 11] 0 = [fwd 11] ∧
      (arrived.carrier 2).releases < (arrived.carrier 2).params.progress ∧
      (arrived.carrier 2).params.progress ≤ (arrived.carrier 2).releases + 1 ∧
      (trimTrail 2 0 arrived).portD.outbound.length < 16 := by decide

/-- R71: the second release of an interval of 2 sends NOTICE PROGRESS, and the trimmed section is free. -/
theorem test_trim_reports_progress :
    let t := trimTrail 2 0 arrived
    t.portD.outbound = [progressNotice arrived 2 2 12] ∧ t.holdsSection 2 11 = false ∧ (t.carrier 2).releases = 0 := by
  decide

/-- Each check of R76, in order, stops an attempt of slot 2 on section 12 or another, and the last finds none. -/
theorem witness_AttemptsFollowTheSixChecks :
    let held (st : HoldState) (d : Direction) := { floor with holds := insertAt floor.holds 11 ⟨[⟨3, st⟩], some d⟩ }
    let wide := withDriver { driver with params := { params with wide := true } } floor
    let full := { floor with zones := [(1, ⟨1, true⟩)], occupancy := [(1, 1)], holds := [(10, ⟨[⟨2, .active⟩], some .fwd⟩)] }
    floor.TablesCanonical ∧ floor.admitted 2 = true ∧ attempt floor 2 (fwd 14) = some .closed ∧
      attempt (held .frozen .fwd) 2 (fwd 11) = some (.blocked .recall (some 3)) ∧
      attempt (held .active .rev) 2 (fwd 11) = some (.blocked .capacity (some 3)) ∧
      attempt wide 2 (fwd 12) = some (.blocked .conflict (some 3)) ∧
      attempt full 2 (fwd 12) = some (.blocked .zoneFull none) ∧ attempt floor 2 (fwd 11) = none ∧
      attempt arrived 2 ⟨11, .rev⟩ = none ∧ arrived.holdsSection 2 11 = true ∧
      attempt { arrived with holds := insertAt arrived.holds 11 ⟨[⟨2, .active⟩, ⟨3, .active⟩], some .fwd⟩ } 2 ⟨11, .rev⟩ =
        some (.blocked .capacity (some 3)) :=
  ⟨witness_canonical.1, by decide⟩

/-- The ends of the loop: a met need, a closed section, a blocked one, and a circle. -/
theorem witness_ComputationsWaitAndGiveReasons :
    let asks (e : RouteEntry) := withDriver { driver with route := [fwd 10, e], requestedSpeed := 2000 } floor
    let blocked := { asks ⟨13, .rev⟩ with waits := [⟨3, 1, 10, .capacity, some 2⟩] }
    floor.admitted 2 = true ∧ (acquireLoop 2 3 false floor).stop = none ∧
      (acquireLoop 2 2 false (asks (fwd 14))).stop = some ⟨1, 14, .closed⟩ ∧
      (acquireLoop 2 2 false (asks ⟨13, .rev⟩)).stop = some ⟨1, 13, .blocked .capacity (some 3)⟩ ∧
      (compute 2 (asks ⟨13, .rev⟩)).grant.reason = .waiting ∧ (compute 2 blocked).grant.reason = .deadlock ∧
      ahead.partState = .running ∧ (ahead.carrier 2).state = .active ∧ (ahead.carrier 2).cutback = none ∧
      ¬(headAfter (ahead.carrier 2) (report 1 1 1200 1500) + 1 = (ahead.carrier 2).route.length ∧
        (report 1 1 1200 1500).speed = 0) := by decide

/-- R107: the third pass-over reports the waiter and raises it. -/
theorem test_third_pass_over_raises :
    let t := (rerun 4 true (waiting.modifyCarrier 4 (fun c => { c with requestedSpeed := 2500 }))).1
    (t.carrier 4).effectivePriority = 2 ∧ (t.carrier 4).passedOver = 0 := by decide

theorem witness_RerunsFollowPriorityThenArrival :
    waiting.admitted 4 = true ∧ waiting.partState = .running ∧ (waiting.carrier 4).passedOver = 2 ∧
    (waiting.waits.map (fun w => w.slot)).Nodup ∧
      (∀ w ∈ waiting.waits, (waiting.carrier w.slot).effectivePriority ≤ 3) ∧
      affectedSlots waiting (.released 11 none) = [4] := by decide

/-- A circle of two carriers is found. -/
theorem witness_DeadlockWalkFindsCircles :
    deadlockWalk [⟨3, 1, 10, .capacity, some 2⟩] 2 8 3 [] = some [3, 2] := by decide

theorem witness_AcquisitionLoopEndsAsR88Says :
    floor.admitted 2 = true ∧ (acquireLoop 2 3 false floor).stop = none ∧
      (acquireLoop 2 2 false (withDriver { driver with route := [fwd 10, fwd 14], requestedSpeed := 2000 } floor)).stop =
        some ⟨1, 14, .closed⟩ := by decide

theorem witness_StoppingNeedRoundsUpAndGrows : (0 : Nat) < 100 ∧ (1000 : Nat) ≤ 1000 ∧ (50 : Nat) ≤ 100 := by decide

/-- The three cases: the clamp fits, the margin fits, the margin does not fit. -/
theorem witness_PermittedSpeedIsTheLargestThatStops :
    let c (remaining : Nat) := { driver with remaining := remaining, requestedSpeed := 1500 }
    floor.params.margin ≤ 1000 ∧
      need floor (c 3150) (secondClamp floor (c 3150)) ≤ available floor (c 3150) 0 ∧
      available floor (c 300) 0 < need floor (c 300) (secondClamp floor (c 300)) ∧
      floor.params.margin ≤ available floor (c 300) 0 ∧ available floor (c 299) 0 < floor.params.margin := by
  decide

theorem witness_CarrierAdmitChecksAndTakesTheSlot :
    let p : AdmissionParams := ⟨3, true, 4000, 3000, 2000, 7, 63, 15⟩
    (∀ m, MgmtReady 0x09 m floor) ∧ floor.TablesCanonical ∧
      (∀ k, floor.holdsSection 64 k = false) ∧ floor.partState ≠ .unconfigured ∧ (0xFE01 : Station) ≠ floor.partStation ∧
      (0xFE01 : Station) ≠ floor.params.dispatchStation ∧ p.priority ≤ 3 ∧ floor.admitted 64 = false ∧
      floor.slotOf 0xFE01 = none ∧ lookup floor.sections 11 = some (lane 2 3 2000 2500 0 [] true) ∧
      (lane 2 3 2000 2500 0 [] true).data.allowed.permits .rev = true ∧ floor.holders 11 = [] ∧
      (lane 2 3 2000 2500 0 [] true).data.zone = 0 ∧
      (∀ h ∈ floor.holders 10, h.state = .active) ∧ (floor.holders 10).length < 2 ∧
      (floor.hold 10).direction = some .fwd ∧ lookup floor.zones 1 = some ⟨2, true⟩ ∧ floor.occupied 1 < 2 := by
  refine ⟨fun _ => (witness_ready .d _).1, witness_canonical.1, ?_, by decide⟩
  intro k
  simp only [State.holdsSection, State.holders, State.hold, floor, lookup]
  split
  · decide
  · split <;> decide

/-- The refusals of an admission: a part not started, a parameter out of range, a slot or station in use, a section not
loaded, a direction not allowed, a section not obtainable. -/
theorem witness_CarrierAdmit_refusals :
    let o (slot st sec dir : Byte) : List Byte := [slot, 1, st, 1, 0, 7, 208, 1, 244, 1, 144, 1, 10, 2, 0, sec, dir]
    (∀ m, MgmtReady 0x09 m floor ∧ MgmtReady 0x09 m unconfigured) ∧ (o 64 9 11 1).length = 17 ∧
      unconfigured.partState = .unconfigured ∧ numAt (o 65 9 11 1) 0 = 65 ∧ floor.admitted 2 = true ∧
      (floor.slotOf (halfAt (o 4 2 11 1) 1)).isSome = true ∧ lookup floor.sections (numAt2 (o 4 9 99 1) 14) = none ∧
      byteAt (o 4 9 10 2) 16 = Direction.rev.code ∧
      (obstacle floor 4 false ⟨10, .rev⟩).isSome = true ∧
      ({ (lane 2 3 2000 2500 0 [] true).data with allowed := .fwd }).allowed.permits .rev = false :=
  ⟨fun _ => ⟨(witness_ready .d _).1, (witness_ready .d _).2.2.2.2.2.2⟩, by decide⟩

theorem witness_CarrierRetireGivesEverythingBack :
    (∀ m, MgmtReady 0x0A m floor ∧ MgmtReady 0x0A m (recalled 5)) ∧ (mgmt [64]).params.length = 1 ∧
      numAt [0] 0 = 0 ∧ 64 < numAt [65] 0 ∧ floor.admitted 64 = false ∧ ((recalled 5).carrier 2).cutback.isSome = true ∧
      floor.admitted 2 = true ∧ (floor.carrier 2).cutback = none ∧
      (∀ n, (floor.carrier n).params.priority ≤ 3 ∧ (floor.carrier n).effectivePriority ≤ 3) ∧
      ∀ sec, floor.holdsSection 2 sec = true → sec ∈ (floor.carrier 2).heldSections := by
  refine ⟨fun _ => ⟨(witness_ready .d _).1, (witness_ready .d _).2.2.1⟩, by decide, by decide, by decide, by decide,
    by decide, by decide, by decide, ?_, ?_⟩
  · intro n
    simp only [State.carrier, floor, lookup]
    split
    · decide
    · split <;> decide
  intro sec
  simp only [State.holdsSection, State.holders, State.hold, floor, lookup]
  split
  · rename_i h; subst h; decide
  · split
    · rename_i h; subst h; decide
    · intro h; cases h

/-- Slot 2 was lost in sections 10 and 11; it is found in 11 with its rear in 10, or is said to be elsewhere. -/
theorem witness_CarrierClearPlacesTheCarrier :
    let p : Position := ⟨fwd 11, [fwd 10]⟩
    let q : Position := ⟨⟨13, .rev⟩, []⟩
    (∀ m, MgmtReady 0x0B m lost) ∧ (mgmt [2, 0, 11, 3, 0]).params.length = 5 + 3 * numAt (mgmt [2, 0, 11, 3, 0]).params 4 ∧
      byteAt [2, 0, 11, 3, 0] 3 ∉ [(1 : Byte), 2] ∧ p.trail.length ≤ 3 ∧ (∀ e ∈ p.entries, 1 ≤ e.sec ∧ e.sec ≤ 1023) ∧
      lost.admitted 64 = false ∧ (lost.carrier 3).believed = true ∧ (lost.carrier 2).state = .lost ∧
      lost.admitted 2 = true ∧ (p.entries.map (fun e => e.sec)).Nodup ∧
      ¬([fwd 10, fwd 10].map (fun e => e.sec)).Nodup ∧ lost.loaded 99 = false ∧
      (∀ e ∈ p.entries, lost.loaded e.sec = true) ∧ (∀ e ∈ p.entries, lost.permits e = true) ∧
      (∀ e ∈ p.entries, keepableOrObtainable (withoutUnnamed 2 p lost) 2 e = true) ∧
      keepableOrObtainable (withoutUnnamed 2 q lost) 2 q.head = false ∧ lost.TablesCanonical ∧ AllFrozen 2 lost ∧
      lost.waitOf 2 = none := by
  refine ⟨fun _ => (witness_ready .d _).2.2.2.1, by decide, by decide, by decide, by decide, by decide,
    by decide, by decide, by decide, by decide, by decide, by decide,
    by decide, by decide, by decide, by decide, witness_canonical.2, ?_, by decide⟩
  intro sec
  simp only [State.holders, State.hold, lost, lookup]
  split
  · decide
  · split
    · decide
    · split <;> decide

theorem witness_CarrierRecallAsksForSpaceBack :
    (∀ m, MgmtReady 0x0C m ahead ∧ MgmtReady 0x0C m (recalled 5) ∧ MgmtReady 0x0C m lost) ∧
      (mgmt [2, 0]).params.length = 2 ∧ 31 < numAt [2, 32] 1 ∧ ahead.admitted 64 = false ∧
      (lost.carrier 2).believed = false ∧ (ahead.carrier 2).believed = true ∧ (ahead.carrier 2).limit < 31 ∧
      (ahead.carrier 2).limit = 1 ∧ (ahead.carrier 2).state = .active ∧ (ahead.carrier 2).head ≤ 0 ∧
      (ahead.carrier 2).cutback = none ∧ ((recalled 5).carrier 2).cutback = some (record 5) ∧
      (record 5).target ≤ 0 ∧ ((recalled 5).carrier 2).limit = 1 :=
  ⟨fun _ => ⟨(witness_ready .d _).2.1, (witness_ready .d _).2.2.1, (witness_ready .d _).2.2.2.1⟩, by decide⟩

/-- A second recall with a lower target: head 0, cutback in flight to 1, limit 2. -/
theorem witness_CarrierRecall_supersedes :
    let c := { driver with limit := 2, cutback := some { record 5 with target := 1 } }
    c.believed = true ∧ c.head ≤ 0 ∧ 0 < c.limit ∧ (0 : Nat) < ({ record 5 with target := 1 }).target := by decide

theorem witness_CarrierQueryShowsAndClears :
    (∀ m, MgmtReady 0x0D m floor) ∧ (mgmt [2]).params.length = 1 ∧ 64 < numAt [65] 0 ∧ floor.admitted 64 = false ∧
      floor.admitted 2 = true ∧ (floor.carrier 2).trail.length ≤ 3 :=
  ⟨fun _ => (witness_ready .d _).1, by decide⟩

/-- A route for slot 3, and for each check one that fails it. -/
def order (dest : Station) (body : List Byte) : RouteOrder := ⟨dest, 1, 0, body⟩

theorem witness_RouteInspectionAccepts :
    inspect (order 0x103 [8, 1, 0, 13, 1]) floor = .inr (3, [fwd 13]) ∧
      inspect (order 0x102 [8, 3, 0, 10, 1, 0, 11, 1, 0, 12, 1]) floor = .inr (2, [fwd 10, fwd 11, fwd 12]) := by
  decide

theorem witness_RouteChecksAreTakenInOrder :
    inspect (order 0x103 []) unconfigured = .inl (.wrongState, 0) ∧
      inspect (order 0x102 []) lost = .inl (.notAdmitted, 0) ∧
      inspect (order 0x103 [8, 1, 0, 13, 3]) floor = .inl (.badFormat, 0) ∧
      inspect (order 0x103 [8, 2, 0, 13, 1, 0, 99, 1]) floor = .inl (.noSection, 1) ∧
      inspect (order 0x103 [8, 1, 0, 13, 2])
        { floor with sections := [(13, { lane 4 9 1000 2500 0 [] true with
          data := ⟨.lane, 4, 9, 1000, 2500, 2, .fwd, 0⟩ })] } = .inl (.badDirection, 0) ∧
      inspect (order 0x103 [8, 2, 0, 13, 1, 0, 10, 1]) floor = .inl (.discontinuous, 1) ∧
      inspect (order 0x103 [8, 2, 0, 13, 1, 0, 13, 2]) floor = .inl (.duplicate, 1) ∧
      inspect (order 0x103 [8, 1, 0, 10, 1]) floor = .inl (.notAtStart, 0) ∧
      inspect (order 0x102 [8, 1, 0, 10, 1]) ahead = .inl (.aheadHeld, 0) ∧
      inspect (order 0x102 [8, 1, 0, 10, 2])
        { floor with holds := [(10, ⟨[⟨2, .active⟩, ⟨3, .active⟩], some .fwd⟩)] } = .inl (.directionHeld, 0) := by
  refine ⟨?_, ?_, ?_, ?_, ?_, ?_, ?_, ?_, ?_, ?_⟩ <;> decide

theorem witness_RouteIsStoredOrRefused :
    (∀ o, Ready .d (routeFrame o) floor) ∧ inspect (order 0x103 [8, 1, 0, 13, 2]) floor = .inr (3, [⟨13, .rev⟩]) ∧
      [(⟨13, .rev⟩ : RouteEntry)].head? = some ⟨13, .rev⟩ ∧ floor.holdsSection 3 (floor.carrier 3).headSection = true ∧
      inspect (order 0x999 []) floor = .inl (.notAdmitted, 0) :=
  ⟨fun _ => (witness_ready .d _).1, by decide⟩

/-- Slot 2 is heard on the floor, and not believed once lost. -/
theorem witness_sources :
    FromCarrier 0x102 2 floor ∧ FromCarrier 0x102 2 ahead ∧ FromCarrier 0x102 2 (recalled 5) ∧
      FromCarrier 0x103 3 floor ∧ FromCarrier 0x102 2 (halted floor) := by
  refine ⟨?_, ?_, ?_, ?_, ?_⟩ <;> exact And.intro (by decide) (by decide)

/-- Sequence 11 is new after 10. -/
theorem witness_new : NewSequence driver 11 ∧ NewSequence idler 0 :=
  ⟨fun l h => by cases h; decide, fun l h => by cases h⟩

theorem witness_FramesThatMoveNothing :
    (∀ f, Ready .c f floor ∧ Ready .c f lost ∧ Ready .c f (recalled 5)) ∧ floor.slotOf 0x999 = none ∧
      lost.slotOf 0x102 = some 2 ∧ (lost.carrier 2).believed = false ∧ FromCarrier 0x102 2 floor ∧
      (floor.carrier 2).lastSequence = some 10 ∧ (floor.carrier 2).lastAnswer = none ∧
      (withDriver { driver with lastAnswer := some ⟨1, 2, 3, 4, []⟩ } floor).carrier 2 =
        { driver with lastAnswer := some ⟨1, 2, 3, 4, []⟩ } ∧
      128 ≤ (138 - 10 : Byte).toNat ∧ (floor.carrier 2).cutback = none ∧
      (∃ k, ((recalled 5).carrier 2).cutback = some k ∧ k.number ≠ 2) ∧ (3 : Byte) ≠ 1 ∧ (3 : Byte) ≠ 2 := by
  refine ⟨fun _ => ⟨(witness_ready .c _).1, (witness_ready .c _).2.2.2.1, (witness_ready .c _).2.2.1⟩, by decide,
    by decide, by decide, witness_sources.1, by decide, by decide, by decide,
    by decide, by decide, ⟨record 5, by decide, by decide⟩, by decide, by decide⟩

theorem witness_BadReportsQuarantineAtThree :
    (∀ f, Ready .c f floor) ∧ FromCarrier 0x102 2 floor ∧ FromCarrier 0x103 3 floor ∧ NewSequence driver 11 ∧
      NewSequence idler 0 ∧ (report 3 0 0 0).routeNumber = driver.routeNumber ∧ (report 3 0 0 0).routeNumber ≠ 0 ∧
      driver.route.length ≤ (report 3 0 0 0).headIndex.toNat ∧ idler.routeNumber = 0 ∧ driver.badRun < 2 ∧
      2 ≤ ({ driver with badRun := 2 }).badRun :=
  ⟨fun _ => (witness_ready .c _).1, witness_sources.1, witness_sources.2.2.2.1, witness_new.1, witness_new.2,
    by decide⟩

theorem witness_StandingReportsGetSpeedZero :
    (∀ f, Ready .c f floor) ∧ FromCarrier 0x102 2 floor ∧ FromCarrier 0x103 3 floor ∧ NewSequence driver 11 ∧
      NewSequence idler 0 ∧ (6 : Byte) ≠ driver.routeNumber ∧ idler.routeNumber = 0 ∧ idler.limit = 0 ∧
      driver.releases < driver.params.progress ∧ ({ params with progress := 0 }).progress = 0 :=
  ⟨fun _ => (witness_ready .c _).1, witness_sources.1, witness_sources.2.2.2.1, witness_new.1, witness_new.2,
    by decide⟩

/-- Slot 2 reports section 11, which nobody holds, or section 12, which conflicts with section 13 where slot 3 stands. -/
theorem witness_OverrunQuarantinesAndMayHalt :
    (∀ f, Ready .c f floor) ∧ FromCarrier 0x102 2 floor ∧ NewSequence driver 11 ∧
      driver.route[(report 1 0 0 0).headIndex.toNat]? = some (fwd 11) ∧ driver.limit < (report 1 0 0 0).headIndex.toNat ∧
      ¬spaceOfAnother floor 2 11 ∧
      spaceOfAnother (withDriver { driver with params := { params with wide := true } } floor) 2 12 := by
  refine ⟨fun _ => (witness_ready .c _).1, witness_sources.1, witness_new.1, by decide, by decide, ?_, ?_⟩
  · unfold spaceOfAnother; decide
  · unfold spaceOfAnother; decide

/-- A report of slot 2 at its head, on every floor it is believed on. -/
theorem witness_goodReport :
    GoodReport (report 0 0 1200 1500) 2 floor ∧ GoodReport (report 1 1 1200 1500) 2 ahead ∧
      GoodReport (report 0 0 1200 1500) 2 (recalled 5) ∧ GoodReport (report 1 0 1200 1500) 2 (recalled 5) ∧
      GoodReport (report 0 0 1200 1500) 2 (halted floor) := by
  refine ⟨?_, ?_, ?_, ?_, ?_⟩ <;>
    exact ⟨ready_of_empty .c _ _ rfl rfl, And.intro (by decide) (by decide),
      fun l h => by
        have h10 : l = 10 := by
          have := h.symm.trans (show _ = some (10 : Byte) by decide)
          exact Option.some.inj this
        subst h10; decide,
      by decide, by decide, by decide⟩

theorem witness_RouteCompletesAtItsEnd :
    GoodReport (report 2 0 300 0) 2 arrived ∧ (arrived.carrier 2).state = .active ∧ (arrived.carrier 2).cutback = none ∧
      headAfter (arrived.carrier 2) (report 2 0 300 0) + 1 = (arrived.carrier 2).route.length ∧
      (report 2 0 300 0).speed = 0 ∧ (arrived.carrier 2).releases < (arrived.carrier 2).params.progress :=
  ⟨⟨ready_of_empty .c _ _ rfl rfl, And.intro (by decide) (by decide),
    fun l h => by
      have h10 : l = 10 := Option.some.inj (h.symm.trans (show _ = some (10 : Byte) by decide))
      subst h10; decide,
    by decide, by decide, by decide⟩, by decide⟩

theorem witness_HaltedPartGrantsNoSpeed :
    GoodReport (report 0 0 1200 1500) 2 (halted floor) ∧ (halted floor).partState = .halted ∧
      ((halted floor).carrier 2).cutback = none ∧
      headAfter ((halted floor).carrier 2) (report 0 0 1200 1500) + 1 ≠ ((halted floor).carrier 2).route.length :=
  ⟨witness_goodReport.2.2.2.2, by decide⟩

theorem witness_EveryGrantCanStop :
    let c := ahead.carrier 2
    GoodReport (report 1 1 1200 1500) 2 ahead ∧ ahead.partState = .running ∧ c.state = .active ∧
      (∀ k, c.cutback = some k → k.target < headAfter c (report 1 1 1200 1500)) ∧
      ¬(headAfter c (report 1 1 1200 1500) + 1 = c.route.length ∧ (report 1 1 1200 1500).speed = 0) ∧
      c.limit < c.route.length ∧ (c.route[c.head]?).map (fun e => e.sec) = some c.headSection ∧ c.heldSections.Nodup ∧
      (∀ sec ∈ c.heldSections, ahead.holdsSection 2 sec = true) ∧ ahead.params.margin ≤ 1000 :=
  ⟨witness_goodReport.2.1, rfl, rfl, fun k h => (Option.some_ne_none k h.symm).elim, by decide⟩

/-- The same with a cutback to index 0 that the report at index 1 declines. -/
theorem witness_EveryGrantCanStop_declined :
    let s := recalled 5
    let c := s.carrier 2
    GoodReport (report 1 0 1200 1500) 2 s ∧ s.partState = .running ∧ c.state = .active ∧
      (∀ k, c.cutback = some k → k.target < headAfter c (report 1 0 1200 1500)) ∧
      ¬(headAfter c (report 1 0 1200 1500) + 1 = c.route.length ∧ (report 1 0 1200 1500).speed = 0) ∧
      c.limit < c.route.length ∧ (c.route[c.head]?).map (fun e => e.sec) = some c.headSection ∧ c.heldSections.Nodup ∧
      (∀ sec ∈ c.heldSections, s.holdsSection 2 sec = true) ∧ s.params.margin ≤ 1000 :=
  ⟨witness_goodReport.2.2.2.1, rfl, rfl,
    fun k h => by
      have hk : record 5 = k := Option.some.inj h
      subst hk; decide,
    by decide⟩

theorem witness_CutbackComesBeforeTheGrant :
    let c := (recalled 5).carrier 2
    GoodReport (report 0 0 1200 1500) 2 (recalled 5) ∧ GoodReport (report 1 0 1200 1500) 2 (recalled 5) ∧
      c.cutback = some (record 5) ∧ headAfter c (report 0 0 1200 1500) ≤ (record 5).target ∧
      (record 5).target < headAfter c (report 1 0 1200 1500) :=
  ⟨witness_goodReport.2.2.1, witness_goodReport.2.2.2.1, by decide⟩

/-- Beyond the target: at the last index with speed 0, in a HALTED part, and in a RUNNING one. -/
theorem witness_CutbackComesBeforeTheGrant_answers :
    let atEnd := report 1 0 300 0
    let ending := withDriver
      { driver with route := [fwd 10, fwd 11], limit := 1, cutbackNumber := 1, cutback := some (record 5) } (recalled 5)
    (GoodReport atEnd 2 ending ∧ (ending.carrier 2).cutback = some (record 5) ∧
      (record 5).target < headAfter (ending.carrier 2) atEnd ∧ (ending.carrier 2).state = .active ∧
      headAfter (ending.carrier 2) atEnd + 1 = (ending.carrier 2).route.length ∧ atEnd.speed = 0) ∧
    (GoodReport (report 1 0 1200 1500) 2 (halted (recalled 5)) ∧ (halted (recalled 5)).partState = .halted) ∧
    (recalled 5).partState = .running ∧ (report 1 0 1200 1500).speed ≠ 0 := by
  refine ⟨⟨⟨ready_of_empty .c _ _ rfl rfl, And.intro (by decide) (by decide), fun l h => ?_, by decide, by decide, by decide⟩,
    by decide⟩, ⟨⟨ready_of_empty .c _ _ rfl rfl, And.intro (by decide) (by decide), fun l h => ?_, by decide, by decide,
    by decide⟩, by decide⟩, by decide⟩
  · have h10 : l = 10 := Option.some.inj (h.symm.trans (show _ = some (10 : Byte) by decide))
    subst h10; decide
  · have h10 : l = 10 := Option.some.inj (h.symm.trans (show _ = some (10 : Byte) by decide))
    subst h10; decide

theorem witness_AcceptedCutbackReleases :
    (∀ f, Ready .c f (recalled 5)) ∧ FromCarrier 0x102 2 (recalled 5) ∧
      ((recalled 5).carrier 2).cutback = some (record 5) ∧ (1 : Byte) = (record 5).number :=
  ⟨fun _ => (witness_ready .c _).2.2.1, witness_sources.2.2.1, by decide⟩

theorem witness_UnacceptedCutbackRestores :
    (∀ f, Ready .c f (recalled 5)) ∧ FromCarrier 0x102 2 (recalled 5) ∧
      ((recalled 5).carrier 2).cutback = some (record 5) ∧ (record 5).number = 1 ∧ (record 5).timeout ≠ 0 ∧
      ((recalled 0).carrier 2).cutback = some (record 0) ∧ (record 0).timeout = 0 ∧
      (recalled 0).pins.resetHeld = false :=
  ⟨fun _ => (witness_ready .c _).2.2.1, witness_sources.2.2.1, by decide⟩

theorem witness_RejoinActsByState :
    let s (st : CarrierState) := withDriver { driver with state := st } floor
    (∀ st f, Ready .c f (s st)) ∧ (∀ st, (s st).slotOf 0x102 = some 2 ∧ ((s st).carrier 2).state = st) :=
  ⟨fun _ _ => ready_of_empty .c _ _ rfl rfl, fun st => by cases st <;> decide⟩

theorem witness_CycleEventBeatsOnce :
    floor.pins.resetHeld = false ∧ State.reset.timerRunning = false ∧ floor.timerRunning = true ∧
      floor.portC.outbound.length < 16 ∧
      16 ≤ ({ floor with portC := { Port.empty with outbound := List.replicate 16 ⟨1, 2, 3, 4, []⟩ } }).portC.outbound.length := by
  decide

/-- The boundary counters: one below the limit of 5 after the event, at it, a carrier out of service, and timeouts 2 and 1. -/
theorem witness_CycleEventSupervises :
    floor.pins.resetHeld = false ∧ floor.timerRunning = true ∧ Rising floor.carriers ∧ driver.believed = true ∧
      ({ driver with silence := 3 }).silence + 1 < driver.silenceLimit ∧
      ({ driver with silence := 4 }).silence + 1 = driver.silenceLimit ∧ (lost.carrier 2).believed = false ∧
      (lost.carrier 2).cutback = none ∧ lost.waitOf 2 = none ∧ 1 < (record 2).timeout ∧ (record 1).timeout ≤ 1 ∧
      ((recalled 2).carrier 2).cutback = some (record 2) ∧ floor.portC.outbound.length ≤ 16 ∧
      ({ driver with silence := 1 }).silence + 1 = driver.silenceLimit / 2 ∧ driver.probeSent = false ∧
      (cycleEvent (fun _ => .beforeTimeouts) (withDriver { driver with silence := 4 } floor)).portD.outbound.length < 16 := by
  decide

theorem witness_HoldIdleCountsWhileWanted :
    (∀ k, (waiting.carrier k).cutback = none) ∧
      (∀ k, (waiting.carrier k).believed = true → (waiting.carrier k).silence + 1 ≠ (waiting.carrier k).silenceLimit) ∧
      Rising waiting.carriers ∧ waiting.timerRunning = true ∧ (waiting.carrier 2).state = .active ∧
      (∃ w ∈ waiting.waits, w.blocker = some 2 ∧ ∃ e ∈ (waiting.carrier 2).ahead, e.sec = w.wantedSection) ∧
      ¬(∃ w ∈ waiting.waits, w.blocker = some 4 ∧ ∃ e ∈ (waiting.carrier 4).ahead, e.sec = w.wantedSection) ∧
      (waiting.carrier 4).state = .active ∧ (waiting.carrier 4).holdIdle + 1 < waiting.params.holdLimit ∧
      ({ waiting with params := { waiting.params with holdLimit := 22 } }).params.holdLimit = 20 + 2 ∧
      (waiting.carrier 2).holdIdle = 20 ∧ (halted waiting).partState ≠ .running ∧
      waiting.params.holdLimit ≤ (waiting.carrier 2).holdIdle + 1 ∧
      ((waiting.carrier 2).route.map (fun e => e.sec)).Nodup ∧ (waiting.carrier 2).head ≤ 0 ∧
      0 < (waiting.carrier 2).limit ∧
      need waiting (waiting.carrier 2) (firstClamp waiting (waiting.carrier 2)) ≤ available waiting (waiting.carrier 2) 0 ∧
      (∃ w ∈ waiting.waits, w.blocker = some 2 ∧ (waiting.carrier 2).route[1]? = some (fwd w.wantedSection)) ∧
      (cycleEvent (fun _ => .beforeTimeouts) waiting).portC.outbound.length < 16 := by
  have h : ∀ k, (waiting.carrier k).cutback = none ∧
      ((waiting.carrier k).believed = true → (waiting.carrier k).silence + 1 ≠ (waiting.carrier k).silenceLimit) := by
    intro k
    simp only [State.carrier, waiting, lookup]
    split
    · decide
    · split
      · decide
      · split <;> decide
  exact ⟨fun k => (h k).1, fun k => (h k).2, by decide⟩

/-- A cycle event with another carrier's loss, with another carrier's cutback that runs out, and with a carrier's own. -/
theorem witness_HoldIdleCountsWhileWanted_others :
    let lossDue (s : State) (n : Nat) : Bool :=
      (s.carrier n).believed && (s.carrier n).silence + 1 = (s.carrier n).silenceLimit
    let losing := { waiting with carriers := insertAt waiting.carriers 3 { idler with silence := 4 } }
    let other := { recalled 1 with carriers := insertAt (recalled 1).carriers 4 (waiting.carrier 4) }
    (Rising losing.carriers ∧ losing.slots.filter (lossDue losing) = [3] ∧ (losing.carrier 2).state = .active) ∧
      Rising other.carriers ∧ (other.carrier 4).state = .active ∧ (other.carrier 4).cutback = none ∧
      lossDue other 4 = false ∧ (other.carrier 2).cutback = some (record 1) ∧ (other.carrier 2).state = .active ∧
      lossDue other 2 = false := by
  decide

theorem witness_TimerRowsActAtTheirPoints :
    let half := { driver with silence := 2 }
    let full := { driver with silence := 5 }
    floor.pins.resetHeld = false ∧ (withDriver half floor).carrier 2 = half ∧ half.believed = true ∧
      half.silence = [3, 5, 10, 20, 30, 50, 100, 200].getD params.supervision 0 / 2 ∧ half.probeSent = false ∧
      full.believed = true ∧ full.silence = [3, 5, 10, 20, 30, 50, 100, 200].getD params.supervision 0 ∧
      driver.silence ≠ 2 := by decide

/-- Slot 2 stands with 1200 mm to the end of its head section, which covers its margin; slot 4 wants section 11. -/
theorem witness_TimerRows_holdLimit :
    let c := waiting.carrier 2
    waiting.pins.resetHeld = false ∧ waiting.partState = .running ∧ c.state = .active ∧ c.cutback = none ∧
      waiting.params.holdLimit ≠ 0 ∧ waiting.params.holdLimit ≤ c.holdIdle ∧ (c.route.map (fun e => e.sec)).Nodup ∧
      c.head ≤ 0 ∧ 0 < c.limit ∧ need waiting c (firstClamp waiting c) ≤ available waiting c 0 ∧
      (∃ w ∈ waiting.waits, w.blocker = some 2 ∧ (c.route[1]?).map (fun e => e.sec) = some w.wantedSection) ∧
      (∃ w ∈ ({ waiting with waits := [] }).waits, w.blocker = some 2) = False ∧
      ¬(need waiting { c with remaining := 299 } 0 ≤ available waiting { c with remaining := 299 } 0) ∧
      c.head ≤ c.limit := by
  refine ⟨by decide, by decide, by decide, by decide, by decide,
    by decide, by decide, by decide, by decide, by decide, by decide,
    by simp, by decide, by decide⟩

/-- Each code at the ends of its range. -/
theorem witness_ParamsSetChecksAndStores :
    (∀ m, MgmtReady 0x10 m ahead) ∧ (mgmt [1, 0, 7]).params.length = 3 ∧ 6 < numAt [7, 0, 0] 0 ∧
      7 < numAt2 [1, 0, 8] 1 ∧ numAt2 [2, 3, 0xE8] 1 = 1000 ∧ 1000 < numAt2 [2, 3, 0xE9] 1 ∧ numAt2 [3, 0, 8] 1 = 8 ∧
      8 < numAt2 [3, 0, 9] 1 ∧
      (∃ e ∈ ({ ahead with carriers := [(2, { driver with limit := 2 })] }).carriers, 1 < e.2.limit - e.2.head) ∧
      ¬(∃ e ∈ ahead.carriers, 1 < e.2.limit - e.2.head) ∧ 255 < numAt2 [4, 1, 0] 1 ∧ numAt2 [4, 0, 255] 1 = 255 ∧
      numAt2 [4, 0, 0] 1 = 0 ∧ 63 < numAt2 [5, 0, 64] 1 ∧ halfAt [6, 0xFE, 0] 1 = ahead.partStation ∧
      (ahead.slotOf 0x102).isSome = true ∧ ahead.slotOf 2 = none :=
  ⟨fun _ => (witness_ready .d _).2.1, by decide⟩

theorem witness_StartAndHaltByPartState (code : Byte) :
    MgmtReady code (mgmt []) floor ∧ MgmtReady code (mgmt []) (halted floor) ∧ MgmtReady code (mgmt []) unconfigured ∧
      (mgmt []).params = [] ∧ floor.partState = .running ∧ (halted floor).partState = .halted ∧
      unconfigured.partState = .unconfigured :=
  ⟨(witness_ready .d _).1, (witness_ready .d _).2.2.2.2.2.1, (witness_ready .d _).2.2.2.2.2.2, by decide⟩

theorem witness_QueriesReportAndClearFlags :
    (∀ code m, MgmtReady code m floor) ∧ (mgmt (bytes2 10)).params.length = 2 ∧ 1023 < numAt2 (bytes2 1024) 0 ∧
      lookup floor.sections 1023 = none ∧ (lookup floor.sections 12).isSome = true ∧ floor.waits.length ≤ 35 ∧
      35 < ({ floor with waits := List.replicate 36 ⟨4, 1, 11, .capacity, none⟩ }).waits.length :=
  ⟨fun _ _ => (witness_ready .d _).1, by decide⟩

theorem witness_ResetsEmptyThePart (m : Mgmt) :
    (queued (mgmtFrame (mgmt [3]) 0x13 floor.partStation)).portD.inbound =
        mgmtFrame (mgmt [3]) 0x13 floor.partStation :: [] ∧ (mgmt [3]).params ≠ [0x01] ∧ (mgmt []).params ≠ [0x02] ∧
      MgmtReady 0x13 m floor ∧ MgmtReady 0x13 m unconfigured ∧ floor.partState ≠ .unconfigured ∧
      unconfigured.partState = .unconfigured :=
  ⟨rfl, by decide, by decide, (witness_ready .d _).1, (witness_ready .d _).2.2.2.2.2.2, by decide⟩

/-- A step from the floor, and the invariants there. -/
theorem witness_StepKeepsTablesAndPartState :
    step floor = .next floor ∧ floor.TablesCanonical ∧ (∀ p, (floor.port p).WithinPlaces) ∧ floor.PartCoherent :=
  ⟨rfl, witness_canonical.1, fun p => by cases p <;> exact ⟨by decide, by decide⟩,
    ⟨by decide, by decide, by decide⟩⟩

theorem witness_StepKeepsHoldsLawful : step floor = .next floor ∧ floor.HoldsLawful := by
  refine ⟨rfl, ?_⟩
  intro sec
  by_cases h10 : sec = 10
  · subst h10; decide
  by_cases h13 : sec = 13
  · subst h13; decide
  have h : lookup floor.holds sec = none := by simp [floor, lookup, Ne.symm h10, Ne.symm h13]
  simp [State.holders, State.hold, h, HoldRecord.free]

/-- A pool of whole size: two records on the chains of sections 12 and 13, the rest free. -/
def pooled : State :=
  { State.reset with
    freeRecords := List.range' 3 2046
    sections := [(12, lane 3 4 1500 2500 1 [⟨1, 13, .wide⟩] true), (13, lane 4 9 1000 2500 0 [⟨2, 12, .wide⟩] true)] }

theorem pooled_chainOf (a : Nat) : pooled.chainOf a =
    if a = 12 then [⟨1, 13, .wide⟩] else if a = 13 then [⟨2, 12, .wide⟩] else [] := by
  by_cases h12 : a = 12
  · subst h12; rfl
  by_cases h13 : a = 13
  · subst h13; rfl
  simp [State.chainOf, pooled, lookup, h12, h13, Ne.symm h12, Ne.symm h13]

theorem witness_StepKeepsPoolLawful : step pooled = .next pooled ∧ pooled.PoolLawful := by
  refine ⟨rfl, by decide, ?_, ?_, ?_, ?_, ?_⟩
  · have h : allRecords = [1, 2] ++ List.range' 3 2046 := rfl
    rw [h]
    exact List.perm_append_comm
  · intro a; rw [pooled_chainOf]; split
    · decide
    · split <;> decide
  · intro a; rw [pooled_chainOf]; split
    · decide
    · split <;> decide
  · intro a r hr
    rw [pooled_chainOf] at hr
    split at hr
    · rename_i h; subst h; simp at hr; subst hr; decide
    · split at hr
      · rename_i h; subst h; simp at hr; subst hr; decide
      · cases hr
  · intro a b cond
    simp only [State.ChainHas, pooled_chainOf]
    by_cases ha : a = 12 <;> by_cases hb : b = 12 <;> by_cases ha' : a = 13 <;> by_cases hb' : b = 13 <;>
      simp_all <;> omega

theorem witness_StepKeepsTrafficLawful : step waiting = .next waiting ∧ waiting.TrafficLawful := by
  refine ⟨rfl, by decide, by decide, ?_, ?_, by decide, ⟨by decide, by decide⟩, ?_, ⟨by decide, by decide, by decide⟩⟩
  · intro e he
    simp only [waiting, List.mem_cons, List.not_mem_nil, or_false] at he
    rcases he with rfl | rfl | rfl <;> constructor <;> decide
  · intro e he
    simp only [waiting, List.mem_cons, List.not_mem_nil, or_false] at he
    rcases he with rfl | rfl | rfl <;> constructor <;> decide
  · constructor <;> decide

/-- Slot 3 stands in section 12 of zone 1, which conflicts with 13. -/
def ruled : State :=
  { pooled with
    zones := [(1, ⟨2, true⟩)]
    holds := [(12, ⟨[⟨3, .active⟩], some .fwd⟩)]
    occupancy := [(1, 1)]
    carriers := [(3, { idler with headSection := 12 })] }

theorem ruled_holders (sec : Nat) : ruled.holders sec = if sec = 12 then [⟨3, .active⟩] else [] := by
  by_cases h : sec = 12
  · subst h; rfl
  · simp [State.holders, State.hold, ruled, lookup, h, Ne.symm h, HoldRecord.free]

theorem ruled_carrier (n : Nat) : ruled.carrier n = if n = 3 then { idler with headSection := 12 } else .vacant := by
  by_cases h : n = 3
  · subst h; rfl
  · simp [State.carrier, ruled, lookup, h, Ne.symm h]

theorem ruled_admitted (n : Nat) : ruled.admitted n = decide (n = 3) := by
  by_cases h : n = 3
  · subst h; rfl
  · simp [State.admitted, ruled, lookup, h, Ne.symm h]

theorem witness_StepKeepsRightsLawful : step ruled = .next ruled ∧ ruled.RightsLawful := by
  have pool : ruled.PoolLawful := by
    have h := witness_StepKeepsPoolLawful.2
    exact ⟨h.rising, h.records, h.short, h.once, h.notSelf, h.symmetric⟩
  have traffic : ruled.TrafficLawful := by
    refine ⟨by decide, by decide, ?_, ?_, by decide, ⟨by decide, by decide⟩, ?_, ⟨by decide, by decide, by decide⟩⟩
    · intro e he
      simp only [ruled, List.mem_cons, List.not_mem_nil, or_false] at he
      subst he
      constructor <;> decide
    · intro e he
      simp only [ruled, List.mem_cons, List.not_mem_nil, or_false] at he
      subst he
      constructor <;> decide
    · constructor <;> decide
  refine ⟨rfl, ⟨⟨by decide, by decide, by decide, by decide, by decide, by decide, by decide, by decide⟩, pool, traffic,
    ?_, ?_, ?_, ?_, ?_, ?_, ?_, ?_, ?_⟩⟩
  · intro sec
    by_cases h : sec = 12
    · subst h; decide
    · have e : lookup ruled.holds sec = none := by simp [ruled, lookup, Ne.symm h]
      simp [State.holders, State.hold, e, HoldRecord.free]
  · intro n sec
    by_cases h : n = 3 <;> by_cases e : sec = 12 <;>
      simp [State.holdsSection, ruled_holders, ruled_admitted, ruled_carrier, h, e, eq_comm (a := 3) (b := n), Carrier.heldSections,
        Carrier.ahead, idler, Carrier.vacant]
  · intro sec
    rw [ruled_holders]
    split <;> decide
  · intro n h
    rw [ruled_admitted] at h
    have e : n = 3 := of_decide_eq_true h
    subst e
    decide
  · intro n sec
    by_cases h : n = 3 <;> by_cases e : sec = 12 <;>
      simp [State.holdStateOf, ruled_holders, ruled_carrier, h, e, eq_comm (a := 3) (b := n), idler, Carrier.vacant]
  · intro n sec
    by_cases h : n = 3 <;> by_cases e : sec = 12 <;>
      simp [State.holdStateOf, State.holdsSection, ruled_holders, ruled_carrier, h, e, eq_comm (a := 3) (b := n), idler, Carrier.vacant,
        Carrier.believed]
  · intro z hz
    by_cases h : z = 1
    · subst h; decide
    · have e : ruled.occupied z = 0 := by simp [State.occupied, ruled, lookup, Ne.symm h]
      have c : ruled.countsIn 3 z = false := by simp [State.countsIn, ruled, pooled, State.zoneOf, lookup, lane, Ne.symm h]
      rw [e]
      simp [State.slots, ruled] at c ⊢
      simp [c]
  · intro a r _ x hx y hy hne
    rw [ruled_holders] at hx hy
    split at hx <;> split at hy <;> simp_all
  · intro n
    rw [ruled_carrier]
    split
    · decide
    · exact Nat.zero_le _

/-- Commands that write nothing of each kind. -/
theorem witness_OnlyNamedCommandsWrite :
    writesMap .cycleEvent = false ∧ writesParams .portCClassify = false ∧ writesCycle (.start (mgmt [])) = false ∧
      writesPartState .cycleEvent = false ∧ exec (.sectionQuery (mgmt [])) unconfigured =
        .next (answer (mgmt []) .badValue [] (dropFront .d unconfigured)) := by
  refine ⟨by decide, by decide, by decide, by decide, rfl⟩

end Sys2Proof.Tests
end

section
/-! The frames of whole commands. A frame is a reflexive, transitive relation between states that every change of the
ports alone satisfies; what each command keeps is told once per handler, and carried through the classifier's taking of
a frame by the lemmas about frames in general. -/

namespace Sys2Proof.Proofs

open Sys2Proof Sys2Proof.Machine Sys2Proof.Laws

/-! ### Frames in general -/

/-- A relation between states that composes and that no change of the ports alone breaks. -/
structure IsFrame (R : State → State → Prop) : Prop where
  ports : ∀ {s t}, PortsOnly s t → R s t
  trans : ∀ {s t u}, R s t → R t u → R s u

namespace IsFrame

variable {R : State → State → Prop} (hR : IsFrame R) {s u : State}

include hR

theorem refl (s : State) : R s s := hR.ports (PortsOnly.refl s)

theorem answer (h : R s u) (m : Mgmt) (st : Status) (d : List Byte) : R s (answer m st d u) :=
  hR.trans h (hR.ports (answer_portsOnly u m st d))

theorem refuse (s : State) (m : Mgmt) (st : Status) : R s (refuse m st s) := hR.ports (refuse_portsOnly s m st)

theorem whileActive {act : State → State} (h : ∀ u, R u (act u)) (s : State) : R s (whileActive act s) := by
  unfold Machine.whileActive
  split
  · exact hR.refl s
  · exact h s

theorem takeFrame {handle : State → State} (h : ∀ u, R u (handle u)) (p : PortId) (f : Frame) (s : State) :
    R s (takeFrame p f handle s) := by
  unfold Machine.takeFrame
  split
  · exact hR.refl s
  · split
    · exact hR.trans (hR.ports (dropFront_portsOnly s p)) (h _)
    · exact hR.ports (offerInbound_portsOnly s p f)

theorem takeFront {classify : Frame → State → State} (h : ∀ f u, R u (classify f u)) (p : PortId) (s : State) :
    R s (takeFront p classify s) := by
  unfold Machine.takeFront
  split
  · exact hR.refl s
  · exact hR.trans (hR.ports (dropFront_portsOnly s p)) (h _ _)

theorem foldl {α : Type} {f : State → α → State} (h : ∀ s a, R s (f s a)) (l : List α) (s : State) : R s (l.foldl f s) := by
  induction l generalizing s with
  | nil => exact hR.refl s
  | cons a l ih => exact hR.trans (h s a) (ih _)

theorem eachSlot {f : Nat → State → State} (h : ∀ n s, R s (f n s)) (l : List Nat) (s : State) : R s (eachSlot f l s) :=
  hR.foldl (fun s n => h n s) l s

theorem onSection {apply : Nat → SectionEntry → State → State} (h : ∀ sec e u, R u (apply sec e u)) (m : Mgmt)
    (s : State) : R s (onSection m apply s) := by
  unfold Machine.onSection
  split
  · exact hR.refuse s m _
  · dsimp only
    split
    · exact hR.refuse s m _
    · split
      · exact hR.refuse s m _
      · exact hR.answer (h _ _ s) m _ _

theorem onZone {apply : Nat → ZoneEntry → State → State} (h : ∀ z e u, R u (apply z e u)) (m : Mgmt) (s : State) :
    R s (onZone m apply s) := by
  unfold Machine.onZone
  split
  · exact hR.refuse s m _
  · dsimp only
    split
    · exact hR.refuse s m _
    · split
      · exact hR.refuse s m _
      · exact hR.answer (h _ _ s) m _ _

end IsFrame

theorem isFrame_portsOnly : IsFrame PortsOnly := ⟨id, PortsOnly.trans⟩

theorem isFrame_trafficOnly : IsFrame TrafficOnly := ⟨PortsOnly.trafficOnly, TrafficOnly.trans⟩

theorem isFrame_sameControl : IsFrame SameControl := ⟨fun h => h.control, SameControl.trans⟩

/-! ### What a command may write -/

/-- The Track Map, the parameters, the cycle number, and the part state with its cause are each as they were, unless
the command may write them. -/
structure Spares (map params cycle partState : Bool) (s t : State) : Prop where
  map : map = false → SameMap s t
  params : params = false → t.params = s.params
  cycle : cycle = false → t.cycle = s.cycle
  partState : partState = false → t.partState = s.partState ∧ t.haltCause = s.haltCause

end Sys2Proof.Proofs

namespace Sys2Proof.Machine

open Sys2Proof.Proofs

theorem TrafficOnly.spares {a b c d : Bool} {s t : State} (h : TrafficOnly s t) : Spares a b c d s t :=
  ⟨fun _ => h.map, fun _ => h.control.params, fun _ => h.control.cycle,
    fun _ => ⟨h.control.partState, h.control.haltCause⟩⟩

theorem SameControl.spares {b c d : Bool} {s t : State} (h : SameControl s t) : Spares true b c d s t :=
  ⟨nofun, fun _ => h.params, fun _ => h.cycle, fun _ => ⟨h.partState, h.haltCause⟩⟩

end Sys2Proof.Machine

namespace Sys2Proof.Proofs

open Sys2Proof Sys2Proof.Machine Sys2Proof.Laws

theorem spares_all (s t : State) : Spares true true true true s t := ⟨nofun, nofun, nofun, nofun⟩

theorem isFrame_spares (a b c d : Bool) : IsFrame (Spares a b c d) where
  ports h := (PortsOnly.trafficOnly h).spares
  trans h k :=
    { map := fun e => SameMap.trans (h.map e) (k.map e)
      params := fun e => (k.params e).trans (h.params e)
      cycle := fun e => (k.cycle e).trans (h.cycle e)
      partState := fun e => ⟨(k.partState e).1.trans (h.partState e).1, (k.partState e).2.trans (h.partState e).2⟩ }

variable (s : State)

/-! ### Line events and queries change ports only -/

theorem endTransmission_portsOnly (p : PortId) : PortsOnly s (endTransmission p s) := setPort_portsOnly s p _

theorem finishFrame_portsOnly (p : PortId) (bs : List Byte) : PortsOnly s (finishFrame p bs s) := by
  unfold finishFrame
  dsimp only
  split
  · exact offerInbound_portsOnly s p _
  · exact raise_portsOnly s p _

theorem receiveByte_portsOnly (p : PortId) (b : Byte) : PortsOnly s (receiveByte p b s) := by
  unfold receiveByte
  split
  · split
    · exact setRx_portsOnly s p _
    · exact PortsOnly.refl s
  · split
    · exact PortsOnly.trans (raise_portsOnly s p _) (setRx_portsOnly _ p _)
    · exact setRx_portsOnly s p _
  · split
    · exact PortsOnly.trans (setRx_portsOnly s p _) (finishFrame_portsOnly _ p _)
    · exact setRx_portsOnly s p _

theorem receiveBytes_portsOnly (p : PortId) (bs : List Byte) : PortsOnly s (receiveBytes p bs s) :=
  isFrame_portsOnly.foldl (fun s b => receiveByte_portsOnly s p b) bs s

theorem handleSectionQuery_portsOnly (m : Mgmt) : PortsOnly s (handleSectionQuery m s) := by
  unfold handleSectionQuery
  split
  · exact refuse_portsOnly s m _
  · split
    · exact refuse_portsOnly s m _
    · exact answer_portsOnly s m _ _

theorem clearFlags_portsOnly : PortsOnly s (clearFlags s) :=
  ⟨⟨rfl, rfl, rfl⟩, ⟨rfl, rfl, rfl, rfl⟩, ⟨rfl, rfl, rfl, rfl, rfl, rfl⟩, ⟨rfl, rfl, rfl, rfl, rfl⟩⟩

theorem handlePartQuery_portsOnly (m : Mgmt) : PortsOnly s (handlePartQuery m s) := by
  have h := isFrame_portsOnly.answer (clearFlags_portsOnly s) m .ok (partData s)
  unfold handlePartQuery
  split
  · exact refuse_portsOnly s m _
  · dsimp only
    split
    · exact h
    · exact isFrame_portsOnly.answer h m _ _

/-! ### Carrier commands and timers change traffic and ports only -/

theorem handleCarrierAdmit_trafficOnly (m : Mgmt) : TrafficOnly s (handleCarrierAdmit m s) := by
  unfold handleCarrierAdmit
  split
  · exact isFrame_trafficOnly.refuse s m _
  · split
    · exact isFrame_trafficOnly.refuse s m _
    · exact isFrame_trafficOnly.answer (admitCarrier_trafficOnly s _ _) m _ _

theorem handleCarrierRetire_trafficOnly (m : Mgmt) : TrafficOnly s (handleCarrierRetire m s) := by
  have refused := isFrame_trafficOnly.refuse s m
  unfold handleCarrierRetire
  split
  · exact refused _
  · dsimp only
    split
    · exact refused _
    · split
      · exact refused _
      · split
        · exact refused _
        · exact isFrame_trafficOnly.answer (retire_trafficOnly s _) m _ _

theorem handleCarrierClear_trafficOnly (m : Mgmt) : TrafficOnly s (handleCarrierClear m s) := by
  have refused := isFrame_trafficOnly.refuse s m
  unfold handleCarrierClear
  split
  · exact refused _
  · dsimp only
    split
    · exact refused _
    · split
      · exact refused _
      · split
        · exact refused _
        · exact isFrame_trafficOnly.answer (clear_trafficOnly s _ _) m _ _

theorem handleCarrierRecall_trafficOnly (m : Mgmt) : TrafficOnly s (handleCarrierRecall m s) := by
  have refused := isFrame_trafficOnly.refuse s m
  unfold handleCarrierRecall
  split
  · exact refused _
  · dsimp only
    split
    · exact refused _
    · split
      · exact refused _
      · split
        · exact refused _
        · split
          · exact refused _
          · refine isFrame_trafficOnly.answer ?_ m _ _
            split
            · exact TrafficOnly.refl s
            · exact trigger_trafficOnly s _ _

theorem handleCarrierQuery_trafficOnly (m : Mgmt) : TrafficOnly s (handleCarrierQuery m s) := by
  have refused := isFrame_trafficOnly.refuse s m
  unfold handleCarrierQuery
  split
  · exact refused _
  · dsimp only
    split
    · exact refused _
    · split
      · exact refused _
      · exact isFrame_trafficOnly.answer (modifyCarrier_trafficOnly s _ _) m _ _

theorem forCarrier_frame {R : State → State → Prop} (hR : IsFrame R) {handle : Nat → State → State}
    (h : ∀ n u, R u (handle n u)) (source : Station) : R s (forCarrier source handle s) := by
  unfold forCarrier
  split
  · exact h _ s
  · exact hR.ports (raise_portsOnly s .c _)

theorem handleAck_trafficOnly (a : CutbackAck) : TrafficOnly s (handleAck a s) :=
  forCarrier_frame s isFrame_trafficOnly (fun n u => takeAck_trafficOnly u n a) _

theorem handleRejoin_trafficOnly (r : Rejoin) : TrafficOnly s (handleRejoin r s) :=
  forCarrier_frame s isFrame_trafficOnly (fun n u => takeRejoin_trafficOnly u n r) _

theorem sendProbe_trafficOnly (n : Nat) : TrafficOnly s (sendProbe n s) := by
  unfold sendProbe
  split
  · exact TrafficOnly.trans (modifyCarrier_trafficOnly s n _) (PortsOnly.trafficOnly (offerOwn_portsOnly _ .c _))
  · exact TrafficOnly.refl s

theorem loseCarrier_trafficOnly (n : Nat) : TrafficOnly s (loseCarrier n s) := by
  unfold loseCarrier
  split
  · exact leaveService_trafficOnly s n _ _ _ _
  · exact TrafficOnly.refl s

theorem endTimedOut_trafficOnly (n : Nat) : TrafficOnly s (endTimedOut n s) := by
  unfold endTimedOut
  split
  · split
    · exact endUnaccepted_trafficOnly s n _ _ _
    · exact TrafficOnly.refl s
  · exact TrafficOnly.refl s

theorem expireHoldLimit_trafficOnly (w : List WaitEntry) (n : Nat) : TrafficOnly s (expireHoldLimit w n s) := by
  unfold expireHoldLimit
  dsimp only
  split
  · exact trigger_trafficOnly s n _
  · exact modifyCarrier_trafficOnly s n _

theorem holdLimitEvent_trafficOnly (n : Nat) : TrafficOnly s (holdLimitEvent n s) := by
  unfold holdLimitEvent
  split
  · exact expireHoldLimit_trafficOnly s _ n
  · exact TrafficOnly.refl s

theorem countSilence_trafficOnly (n : Nat) : TrafficOnly s (countSilence n s) := by
  unfold countSilence
  split
  · exact modifyCarrier_trafficOnly s n _
  · exact TrafficOnly.refl s

theorem countHoldIdle_trafficOnly (w : List WaitEntry) (n : Nat) : TrafficOnly s (countHoldIdle w n s) := by
  unfold countHoldIdle
  dsimp only
  split
  · split
    · split
      · exact TrafficOnly.trans (modifyCarrier_trafficOnly s n _) (expireHoldLimit_trafficOnly _ w n)
      · exact modifyCarrier_trafficOnly s n _
    · exact modifyCarrier_trafficOnly s n _
  · exact TrafficOnly.refl s

theorem holdIdlePhase_trafficOnly (slots late : List Nat) : TrafficOnly s (holdIdlePhase slots late s) := by
  unfold holdIdlePhase
  split
  · exact isFrame_trafficOnly.eachSlot (fun n u => countHoldIdle_trafficOnly u _ n) slots s
  · exact TrafficOnly.refl s

/-! ### The cycle event -/

theorem beatCycle_spares : Spares false false true false s (beatCycle s) :=
  (isFrame_spares _ _ _ _).trans
    (t := { s with cycle := s.cycle + 1, period := s.params.periodSelect, freeTick := s.freeTick + 1 })
    ⟨fun _ => ⟨rfl, rfl, rfl⟩, fun _ => rfl, nofun, fun _ => ⟨rfl, rfl⟩⟩
    ((isFrame_spares _ _ _ _).ports (offerOwn_portsOnly _ .c _))

/-- Past its beat a cycle event changes traffic and ports only. -/
theorem runCycle_trafficOnly (place : Nat → Config.LossTime) : TrafficOnly (beatCycle s) (runCycle place s) := by
  have each := @IsFrame.eachSlot _ isFrame_trafficOnly
  have lose := fun l u => each (fun n u => loseCarrier_trafficOnly u n) l u
  unfold runCycle
  refine TrafficOnly.trans ?_ (lose _ _)
  refine TrafficOnly.trans ?_ (holdIdlePhase_trafficOnly _ _ _)
  refine TrafficOnly.trans ?_ (lose _ _)
  refine TrafficOnly.trans ?_ (each (fun n u => endTimedOut_trafficOnly u n) _ _)
  refine TrafficOnly.trans ?_ (each (fun n u => modifyCarrier_trafficOnly u n _) _ _)
  refine TrafficOnly.trans ?_ (lose _ _)
  refine TrafficOnly.trans ?_ (each (fun n u => sendProbe_trafficOnly u n) _ _)
  exact each (fun n u => countSilence_trafficOnly u n) _ _

theorem cycleEvent_spares (place : Nat → Config.LossTime) : Spares false false true false s (cycleEvent place s) := by
  unfold cycleEvent
  split
  · exact (isFrame_spares _ _ _ _).trans (beatCycle_spares s) (runCycle_trafficOnly s place).spares
  · exact (isFrame_spares _ _ _ _).refl s

/-! ### Requests, START, HALT and RESET TRAFFIC spare all but the part state -/

theorem haltPart_spares (cause : HaltCause) (n : Nat) (st : Station) (sec : Nat) :
    Spares false false false true s (haltPart cause n st sec s) :=
  (isFrame_spares _ _ _ _).trans (t := { s with partState := .halted, haltCause := cause })
    ⟨fun _ => ⟨rfl, rfl, rfl⟩, fun _ => rfl, fun _ => rfl, nofun⟩
    ((isFrame_spares _ _ _ _).ports (notice_portsOnly _ _ _))

theorem badReport_trafficOnly (n : Nat) : TrafficOnly s (badReport n s) := by
  have h := modifyCarrier_trafficOnly s n (fun c => { c with condition := .badReport, badRun := c.badRun + 1 })
  unfold badReport
  dsimp only
  split
  · exact TrafficOnly.trans h (leaveService_trafficOnly _ n _ _ _ _)
  · exact h

theorem answerRouteChange_trafficOnly (n : Nat) (r : MoveReq) : TrafficOnly s (answerRouteChange n r s) :=
  TrafficOnly.trans (trimTrail_trafficOnly s n _) (sendGrant_trafficOnly _ n _)

theorem standingReport_trafficOnly (n : Nat) (r : MoveReq) : TrafficOnly s (standingReport n r s) := by
  have h := TrafficOnly.trans (trimTrail_trafficOnly s n r.trailCount.toNat)
    (modifyCarrier_trafficOnly _ n (fun c => { c with
      remaining := min r.remaining.toNat ((trimTrail n r.trailCount.toNat s).lengthOf c.headSection) }))
  unfold standingReport
  dsimp only
  split
  · exact TrafficOnly.trans h (sendGrant_trafficOnly _ n _)
  · exact TrafficOnly.trans h (sendGrant_trafficOnly _ n _)

theorem overrun_spares (n head : Nat) : Spares false false false true s (overrun n head s) := by
  have h : TrafficOnly s (quarantineOverrun n s) := leaveService_trafficOnly s n _ _ _ _
  unfold overrun
  dsimp only
  split
  · exact (isFrame_spares _ _ _ _).trans h.spares (haltPart_spares _ _ _ _ _)
  · exact h.spares

theorem newRequest_spares (n : Nat) (r : MoveReq) : Spares false false false true s (newRequest n r s) := by
  have noted : TrafficOnly s (noteGoodReport n r s) := modifyCarrier_trafficOnly s n _
  have recorded : TrafficOnly s (recordSequence n r.sequence (noteGoodReport n r s)) :=
    TrafficOnly.trans noted (modifyCarrier_trafficOnly _ n _)
  unfold newRequest
  dsimp only
  split
  · exact (TrafficOnly.trans recorded (answerRouteChange_trafficOnly _ n r)).spares
  · split
    · exact (badReport_trafficOnly s n).spares
    · split
      · exact (TrafficOnly.trans recorded (standingReport_trafficOnly _ n r)).spares
      · split
        · exact (isFrame_spares _ _ _ _).trans noted.spares (overrun_spares _ n _)
        · exact (TrafficOnly.trans (TrafficOnly.trans recorded (updatePosition_trafficOnly _ n r))
            (cutbackStep_trafficOnly _ n)).spares

theorem resend_portsOnly (n : Nat) : PortsOnly s (resend n s) := by
  unfold resend
  split
  · exact offerOwn_portsOnly s .c _
  · exact PortsOnly.refl s

theorem takeMoveReq_spares (n : Nat) (r : MoveReq) : Spares false false false true s (takeMoveReq n r s) := by
  have h := refresh_trafficOnly s n
  unfold takeMoveReq
  split
  · dsimp only
    split
    · exact (isFrame_spares _ _ _ _).trans h.spares (newRequest_spares _ n r)
    · exact (TrafficOnly.trans h (PortsOnly.trafficOnly (resend_portsOnly _ n))).spares
    · exact h.spares
  · exact (isFrame_spares _ _ _ _).refl s

theorem handleMoveReq_spares (r : MoveReq) : Spares false false false true s (handleMoveReq r s) :=
  forCarrier_frame s (isFrame_spares _ _ _ _) (fun n u => takeMoveReq_spares u n r) _

theorem classifyC_spares (f : Frame) : Spares false false false true s (classifyC f s) := by
  have ports := @(isFrame_spares false false false true).ports s
  unfold classifyC
  split
  · split
    · exact ports (raise_portsOnly s .c _)
    · unfold handleCarrierFrame
      split
      · exact handleMoveReq_spares s _
      · split
        · exact (handleAck_trafficOnly s _).spares
        · exact (handleRejoin_trafficOnly s _).spares
  · split
    · exact ports (raise_portsOnly s .c _)
    · exact ports (offerForward_portsOnly s .d f)

theorem startPart_spares : Spares false false false true s (startPart s) := by
  unfold startPart
  split <;> exact ⟨fun _ => ⟨rfl, rfl, rfl⟩, fun _ => rfl, fun _ => rfl, nofun⟩

theorem handleStart_spares (m : Mgmt) : Spares false false false true s (handleStart m s) := by
  have hR := isFrame_spares false false false true
  unfold handleStart
  split
  · exact hR.refuse s m _
  · exact hR.answer (startPart_spares s) m _ _

theorem handleHalt_spares (m : Mgmt) : Spares false false false true s (handleHalt m s) := by
  have hR := isFrame_spares false false false true
  unfold handleHalt
  split
  · exact hR.refuse s m _
  · split
    · exact hR.refuse s m _
    · exact hR.answer (hR.refl s) m _ _
    · exact hR.answer (haltPart_spares s _ _ _ _) m _ _

theorem resetTraffic_spares : Spares false false false true s (resetTraffic s) :=
  (isFrame_spares _ _ _ _).trans (t := { s with waits := [], holds := [], occupancy := [], carriers := [] })
    ⟨fun _ => ⟨rfl, rfl, rfl⟩, fun _ => rfl, fun _ => rfl, nofun⟩ (haltPart_spares _ _ _ _ _)

/-- Every RESET but one of mode FULL spares all but the part state. -/
theorem handleReset_spares (m : Mgmt) (h : byteAt m.params 0 ≠ modeFull) :
    Spares false false false true s (handleReset m s) := by
  have hR := isFrame_spares false false false true
  unfold handleReset
  split
  · exact hR.refuse s m _
  · split
    · split
      · exact hR.refuse s m _
      · exact hR.answer (resetTraffic_spares s) m _ _
    · exact hR.refuse s m _

/-! ### PARAMS_SET spares all but the parameters -/

theorem setHoldLimit_spares (v : Nat) : Spares false true false false s (setHoldLimit v s) := by
  unfold setHoldLimit
  dsimp only
  split <;> exact ⟨fun _ => ⟨rfl, rfl, rfl⟩, nofun, fun _ => rfl, fun _ => ⟨rfl, rfl⟩⟩

theorem setParam_spares (code : Byte) (v : Half) : Spares false true false false s (setParam code v s).1 := by
  have refl := (isFrame_spares false true false false).refl s
  have stored (p : PartParams) : Spares false true false false s (s.setParams p) :=
    ⟨fun _ => ⟨rfl, rfl, rfl⟩, nofun, fun _ => rfl, fun _ => ⟨rfl, rfl⟩⟩
  unfold setParam
  dsimp only
  split_ifs
  all_goals first
    | exact refl
    | exact stored _
    | exact setHoldLimit_spares s _

theorem handleParamsSet_spares (m : Mgmt) : Spares false true false false s (handleParamsSet m s) := by
  have hR := isFrame_spares false true false false
  unfold handleParamsSet
  split
  · exact hR.refuse s m _
  · exact hR.answer (setParam_spares s _ _) m _ _

/-! ### Map commands spare cycle, parameters and part state -/

theorem loadSection_sameControl (n : Nat) (d : SectionRecord) : SameControl s (loadSection n d s) := by
  unfold loadSection
  split <;> exact ⟨rfl, rfl, rfl, rfl, rfl, rfl⟩

theorem loadSections_sameControl (bs : List Byte) (first k i : Nat) :
    SameControl s (loadSections bs first k i s).1 := by
  induction k generalizing i s with
  | zero => exact SameControl.refl s
  | succ k ih =>
    unfold loadSections
    split
    · exact SameControl.refl s
    · exact SameControl.refl s
    · exact SameControl.trans (loadSection_sameControl s _ _) (ih _ _)

theorem loadZone_sameControl (z c : Nat) : SameControl s (loadZone z c s) := by
  unfold loadZone
  split
  · exact ⟨rfl, rfl, rfl, rfl, rfl, rfl⟩
  · rename_i e _
    have stored : SameControl s { s with zones := insertAt s.zones z { e with capacity := c } } :=
      ⟨rfl, rfl, rfl, rfl, rfl, rfl⟩
    dsimp only
    split
    · exact SameControl.trans stored (wake_trafficOnly _ _ _).control
    · exact stored

theorem loadZones_sameControl (bs : List Byte) (first k i : Nat) : SameControl s (loadZones bs first k i s).1 := by
  induction k generalizing i s with
  | zero => exact SameControl.refl s
  | succ k ih =>
    unfold loadZones
    split
    · exact SameControl.refl s
    · exact SameControl.trans (loadZone_sameControl s _ _) (ih _ _)

theorem setSectionOpen_sameControl (n : Nat) (o : Bool) : SameControl s (setSectionOpen n o s) := by
  unfold setSectionOpen
  split <;> exact ⟨rfl, rfl, rfl, rfl, rfl, rfl⟩

theorem setZoneOpen_sameControl (z : Nat) (o : Bool) : SameControl s (setZoneOpen z o s) := by
  unfold setZoneOpen
  split <;> exact ⟨rfl, rfl, rfl, rfl, rfl, rfl⟩

theorem setChain_sameControl (n : Nat) (f : List ConflictRecord → List ConflictRecord) :
    SameControl s (setChain n f s) := by
  unfold setChain
  split <;> exact ⟨rfl, rfl, rfl, rfl, rfl, rfl⟩

theorem handleSectionLoad_sameControl (m : Mgmt) : SameControl s (handleSectionLoad m s) := by
  unfold handleSectionLoad
  dsimp only
  split
  · exact isFrame_sameControl.answer (SameControl.refl s) m _ _
  · exact isFrame_sameControl.answer (loadSections_sameControl s _ _ _ _) m _ _

theorem handleZoneLoad_sameControl (m : Mgmt) : SameControl s (handleZoneLoad m s) := by
  unfold handleZoneLoad
  dsimp only
  split
  · exact isFrame_sameControl.answer (SameControl.refl s) m _ _
  · exact isFrame_sameControl.answer (loadZones_sameControl s _ _ _ _) m _ _

theorem handleSectionOpen_sameControl (m : Mgmt) : SameControl s (handleSectionOpen m s) := by
  refine isFrame_sameControl.onSection (fun n e u => ?_) m s
  split
  · exact SameControl.refl u
  · exact SameControl.trans (setSectionOpen_sameControl u n true) (wake_trafficOnly _ _ _).control

theorem handleSectionClose_sameControl (m : Mgmt) : SameControl s (handleSectionClose m s) := by
  refine isFrame_sameControl.onSection (fun n e u => ?_) m s
  split
  · exact SameControl.trans (setSectionOpen_sameControl u n false) (closeTraffic_trafficOnly _ _).control
  · exact SameControl.refl u

theorem handleZoneOpen_sameControl (m : Mgmt) : SameControl s (handleZoneOpen m s) := by
  refine isFrame_sameControl.onZone (fun z e u => ?_) m s
  split
  · exact SameControl.refl u
  · exact SameControl.trans (setZoneOpen_sameControl u z true) (wake_trafficOnly _ _ _).control

theorem handleZoneClose_sameControl (m : Mgmt) : SameControl s (handleZoneClose m s) := by
  refine isFrame_sameControl.onZone (fun z e u => ?_) m s
  split
  · exact SameControl.trans (setZoneOpen_sameControl u z false) (closeTraffic_trafficOnly _ _).control
  · exact SameControl.refl u

theorem appendConflict_sameControl (a b : Nat) (cond : ConflictCondition) :
    SameControl s (appendConflict a b cond s) := by
  unfold appendConflict
  split
  · exact SameControl.refl s
  · rename_i rest _
    exact SameControl.trans (t := { s with freeRecords := rest }) ⟨rfl, rfl, rfl, rfl, rfl, rfl⟩
      (setChain_sameControl _ _ _)

theorem unlinkConflict_sameControl (a b : Nat) : SameControl s (unlinkConflict a b s) := by
  unfold unlinkConflict
  split
  · rename_i r _
    exact SameControl.trans (t := { s with freeRecords := r.record :: s.freeRecords }) ⟨rfl, rfl, rfl, rfl, rfl, rfl⟩
      (setChain_sameControl _ _ _)
  · exact SameControl.refl s

theorem changePair_sameControl (a b : Nat) (old cond : ConflictCondition) :
    SameControl s (changePair a b old cond s) := by
  have h : SameControl s (changeConflict b a cond (changeConflict a b cond s)) :=
    SameControl.trans (setChain_sameControl s _ _) (setChain_sameControl _ _ _)
  unfold changePair
  dsimp only
  split
  · exact SameControl.trans h (wake_trafficOnly _ _ _).control
  · exact h

theorem addPair_sameControl (a b : Nat) (cond : ConflictCondition) : SameControl s (addPair a b cond s) :=
  SameControl.trans (appendConflict_sameControl s a b cond) (appendConflict_sameControl _ b a cond)

theorem removePair_sameControl (a b : Nat) : SameControl s (removePair a b s) :=
  SameControl.trans (unlinkConflict_sameControl s a b) (unlinkConflict_sameControl _ b a)

end Sys2Proof.Proofs

namespace Sys2Proof.Proofs.IsFrame

open Sys2Proof Sys2Proof.Machine Sys2Proof.Laws

variable {R : State → State → Prop} (hR : IsFrame R)

include hR

/-- A CONFLICT_ADD is refused, changes the pair that stands, or adds a new one where the checks of R17 pass. -/
theorem handleConflictAdd (m : Mgmt) (s : State)
    (change : ∀ a b r cond, a ≠ b → s.loaded a = true → s.loaded b = true → s.conflictBetween a b = some r →
      R s (changePair a b r.condition cond s))
    (add : ∀ a b cond, a ≠ b → s.loaded a = true → s.loaded b = true → s.conflictBetween a b = none →
      2 ≤ s.freeRecords.length → (s.chainOf a).length < Config.maxChain → (s.chainOf b).length < Config.maxChain →
      R s (addPair a b cond s)) :
    R s (handleConflictAdd m s) := by
  have refused := hR.refuse s m
  unfold Machine.handleConflictAdd
  dsimp only
  split
  · exact refused _
  · split
    · exact refused _
    · rename_i cond _
      split
      · exact refused _
      · split
        · exact refused _
        · rename_i hab
          split
          · exact refused _
          · rename_i hl
            simp only [Bool.or_eq_true, Bool.not_eq_true', not_or, Bool.not_eq_false] at hl
            split
            · exact refused _
            · split
              · rename_i r hr
                exact hR.answer (change _ _ r cond hab hl.1 hl.2 hr) m _ _
              · rename_i hn
                split
                · exact refused _
                · rename_i hf
                  split
                  · exact refused _
                  · rename_i hc
                    simp only [Bool.or_eq_true, decide_eq_true_eq, not_or, Nat.not_le] at hc
                    exact hR.answer (add _ _ cond hab hl.1 hl.2 hn (Nat.not_lt.mp hf) hc.1 hc.2) m _ _

/-- A CONFLICT_REMOVE is refused, or takes away a pair that stands and reports it. -/
theorem handleConflictRemove (m : Mgmt) (s : State)
    (remove : ∀ a b r, a ≠ b → s.loaded a = true → s.loaded b = true → s.conflictBetween a b = some r →
      R s (wake (.conflictLoosened a b) none (removePair a b s))) :
    R s (handleConflictRemove m s) := by
  have refused := hR.refuse s m
  unfold Machine.handleConflictRemove
  dsimp only
  split
  · exact refused _
  · split
    · exact refused _
    · rename_i hn
      simp only [Bool.or_eq_true, decide_eq_true_eq, not_or] at hn
      split
      · exact refused _
      · rename_i hl
        simp only [Bool.or_eq_true, Bool.not_eq_true', not_or, Bool.not_eq_false] at hl
        split
        · exact refused _
        · rename_i hr
          obtain ⟨r, hr⟩ := Option.ne_none_iff_exists'.mp (mt Option.isNone_iff_eq_none.mpr hr)
          exact hR.answer (remove _ _ r hn.2 hl.1 hl.2 hr) m _ _

end Sys2Proof.Proofs.IsFrame

namespace Sys2Proof.Proofs

open Sys2Proof Sys2Proof.Machine Sys2Proof.Laws

variable (s : State)

theorem handleConflictAdd_sameControl (m : Mgmt) : SameControl s (handleConflictAdd m s) :=
  isFrame_sameControl.handleConflictAdd m s (fun a b _ cond _ _ _ _ => changePair_sameControl s a b _ cond)
    (fun a b cond _ _ _ _ _ _ _ => addPair_sameControl s a b cond)

theorem handleConflictRemove_sameControl (m : Mgmt) : SameControl s (handleConflictRemove m s) :=
  isFrame_sameControl.handleConflictRemove m s (fun a b _ _ _ _ _ =>
    SameControl.trans (removePair_sameControl s a b) (wake_trafficOnly _ _ _).control)

/-! ### Whole commands -/

/-- Each command spares what its row of the writer tables leaves out. -/
theorem exec_spares (i : Instr) (s t : State) (h : exec i s = .next t) :
    Spares (writesMap i) (writesParams i) (writesCycle i) (writesPartState i) s t := by
  have taken {a b c d : Bool} := @IsFrame.takeFrame _ (isFrame_spares a b c d)
  have active {a b c d : Bool} := @IsFrame.whileActive _ (isFrame_spares a b c d)
  have ports {a b c d : Bool} {u v : State} (h : PortsOnly u v) : Spares a b c d u v := (isFrame_spares a b c d).ports h
  cases i <;> cases h
  case powerOn => exact ⟨nofun, nofun, nofun, nofun⟩
  case resetInputAssert => exact ⟨fun _ => ⟨rfl, rfl, rfl⟩, fun _ => rfl, fun _ => rfl, fun _ => ⟨rfl, rfl⟩⟩
  case frameReceive p bs => exact active (fun u => ports (receiveBytes_portsOnly u p bs)) s
  case portCClassify => exact active (fun u => (isFrame_spares _ _ _ _).takeFront (fun f v => classifyC_spares v f) .c u) s
  case portDClassify => exact spares_all _ _
  case frameTransmitEnd p => exact active (fun u => ports (endTransmission_portsOnly u p)) s
  case moveReq r => exact taken (fun u => handleMoveReq_spares u r) _ _ s
  case cutbackAck a => exact taken (fun u => (handleAck_trafficOnly u a).spares) _ _ s
  case rejoin r => exact taken (fun u => (handleRejoin_trafficOnly u r).spares) _ _ s
  case route o => exact taken (fun u => (handleRoute_trafficOnly u o).spares) _ _ s
  case sectionLoad m => exact taken (fun u => (handleSectionLoad_sameControl u m).spares) _ _ s
  case zoneLoad m => exact taken (fun u => (handleZoneLoad_sameControl u m).spares) _ _ s
  case sectionOpen m => exact taken (fun u => (handleSectionOpen_sameControl u m).spares) _ _ s
  case sectionClose m => exact taken (fun u => (handleSectionClose_sameControl u m).spares) _ _ s
  case zoneOpen m => exact taken (fun u => (handleZoneOpen_sameControl u m).spares) _ _ s
  case zoneClose m => exact taken (fun u => (handleZoneClose_sameControl u m).spares) _ _ s
  case conflictAdd m => exact taken (fun u => (handleConflictAdd_sameControl u m).spares) _ _ s
  case conflictRemove m => exact taken (fun u => (handleConflictRemove_sameControl u m).spares) _ _ s
  case carrierAdmit m => exact taken (fun u => (handleCarrierAdmit_trafficOnly u m).spares) _ _ s
  case carrierRetire m => exact taken (fun u => (handleCarrierRetire_trafficOnly u m).spares) _ _ s
  case carrierClear m => exact taken (fun u => (handleCarrierClear_trafficOnly u m).spares) _ _ s
  case carrierRecall m => exact taken (fun u => (handleCarrierRecall_trafficOnly u m).spares) _ _ s
  case carrierQuery m => exact taken (fun u => (handleCarrierQuery_trafficOnly u m).spares) _ _ s
  case sectionQuery m => exact taken (fun u => ports (handleSectionQuery_portsOnly u m)) _ _ s
  case partQuery m => exact taken (fun u => ports (handlePartQuery_portsOnly u m)) _ _ s
  case paramsSet m => exact taken (fun u => handleParamsSet_spares u m) _ _ s
  case start m => exact taken (fun u => handleStart_spares u m) _ _ s
  case halt m => exact taken (fun u => handleHalt_spares u m) _ _ s
  case resetTraffic r => exact taken (fun u => handleReset_spares u (resetCommand r modeTraffic) (show modeTraffic ≠ modeFull by decide)) _ _ s
  case resetFull => exact spares_all _ _
  case cycleEvent => exact active (fun u => cycleEvent_spares u _) s
  case probe n => exact active (fun u => (sendProbe_trafficOnly u n).spares) s
  case silenceLimit n => exact active (fun u => (loseCarrier_trafficOnly u n).spares) s
  case holdLimitExpiry n => exact active (fun u => (holdLimitEvent_trafficOnly u n).spares) s
  case cutbackTimeout n => exact active (fun u => (endTimedOut_trafficOnly u n).spares) s
  case syncByte p b => exact active (fun u => ports (receiveByte_portsOnly u p b)) s

/-- Line events and the two queries touch the ports alone. -/
theorem exec_portsOnly (i : Instr) (s t : State) (h : exec i s = .next t)
    (hi : (∃ p b, i = .syncByte p b) ∨ (∃ p bs, i = .frameReceive p bs) ∨ (∃ p, i = .frameTransmitEnd p) ∨
      (∃ m, i = .sectionQuery m) ∨ ∃ m, i = .partQuery m) : PortsOnly s t := by
  rcases hi with ⟨p, b, rfl⟩ | ⟨p, bs, rfl⟩ | ⟨p, rfl⟩ | ⟨m, rfl⟩ | ⟨m, rfl⟩ <;> cases h
  · exact isFrame_portsOnly.whileActive (fun u => receiveByte_portsOnly u p b) s
  · exact isFrame_portsOnly.whileActive (fun u => receiveBytes_portsOnly u p bs) s
  · exact isFrame_portsOnly.whileActive (fun u => endTransmission_portsOnly u p) s
  · exact isFrame_portsOnly.takeFrame (fun u => handleSectionQuery_portsOnly u m) _ _ s
  · exact isFrame_portsOnly.takeFrame (fun u => handlePartQuery_portsOnly u m) _ _ s

/-- Settles O60: the case split over the commands is `exec_spares`, each arm by its handler's frame. -/
theorem onlyNamedCommandsWrite : Obligations.OnlyNamedCommandsWrite := by
  intro i s t h
  obtain ⟨map, params, cycle, partState⟩ := exec_spares i s t h
  exact ⟨map, params, cycle, partState, exec_portsOnly i s t h⟩

end Sys2Proof.Proofs
end

section
/-! The conflict pool (R14, R15): what the map's changes do to the sparse table and to the chains, and that every step
keeps the pool lawful. -/

namespace Sys2Proof.Proofs

open Sys2Proof Sys2Proof.Machine Sys2Proof.Laws

/-! ### A put in a rising table, up to order -/

section

variable {α : Type}

theorem removeAt_eq_self {t : List (Nat × α)} {n : Nat} (h : ∀ e ∈ t, n < e.1) : removeAt t n = t :=
  List.filter_eq_self.mpr (fun e he => by simpa using (h e he).ne')

theorem removeAt_cons_same (t : List (Nat × α)) (n : Nat) (a : α) : removeAt ((n, a) :: t) n = removeAt t n := by
  simp [removeAt]

theorem removeAt_cons_other (t : List (Nat × α)) {n k : Nat} (a : α) (h : k ≠ n) :
    removeAt ((k, a) :: t) n = (k, a) :: removeAt t n := by
  simp [removeAt, h]

/-- A put leaves the entry put in and the entries of every other number. -/
theorem insertAt_perm {t : List (Nat × α)} (h : Rising t) (n : Nat) (a : α) :
    (insertAt t n a).Perm ((n, a) :: removeAt t n) := by
  induction t with
  | nil => exact List.Perm.refl _
  | cons e t ih =>
    obtain ⟨k, b⟩ := e
    obtain ⟨hk, ht⟩ := List.pairwise_cons.mp h
    unfold insertAt
    split
    · rename_i hlt
      rw [removeAt_eq_self (t := (k, b) :: t)]
      intro e he
      rcases List.mem_cons.mp he with rfl | he
      · exact hlt
      · exact hlt.trans (hk e he)
    · split
      · rename_i _ heq
        subst heq
        rw [removeAt_cons_same, removeAt_eq_self hk]
      · rename_i _ hne
        rw [removeAt_cons_other t b (Ne.symm hne)]
        exact ((ih ht).cons _).trans (List.Perm.swap _ _ _)

/-- The table is the entry of a listed number and the entries of every other number. -/
theorem perm_of_lookup {t : List (Nat × α)} (h : Rising t) {n : Nat} {a : α} (hn : lookup t n = some a) :
    t.Perm ((n, a) :: removeAt t n) := by
  induction t with
  | nil => cases hn
  | cons e t ih =>
    obtain ⟨k, b⟩ := e
    obtain ⟨hk, ht⟩ := List.pairwise_cons.mp h
    by_cases hkn : k = n
    · subst hkn
      cases (show some b = some a by simpa [lookup] using hn)
      rw [removeAt_cons_same, removeAt_eq_self hk]
    · rw [removeAt_cons_other t b hkn]
      exact ((ih ht (by simpa [lookup, hkn] using hn)).cons _).trans (List.Perm.swap _ _ _)

theorem removeAt_of_lookup_none {t : List (Nat × α)} {n : Nat} (h : lookup t n = none) : removeAt t n = t := by
  induction t with
  | nil => rfl
  | cons e t ih =>
    obtain ⟨k, b⟩ := e
    by_cases hk : k = n
    · simp [lookup, hk] at h
    · rw [removeAt_cons_other t b hk, ih (by simpa [lookup, hk] using h)]

end

/-! ### Chains and their records -/

/-- The pool numbers of a chain's records. -/
def recordsOf (chain : List ConflictRecord) : List Nat := chain.map (fun r => r.record)

/-- The pool numbers on the chains of a section table. -/
def chainRecords (t : List (Nat × SectionEntry)) : List Nat := t.flatMap (fun e => recordsOf e.2.chain)

theorem poolRecords_eq (s : State) : s.poolRecords = s.freeRecords ++ chainRecords s.sections := rfl

theorem chainRecords_perm {t u : List (Nat × SectionEntry)} (h : t.Perm u) : (chainRecords t).Perm (chainRecords u) :=
  h.flatMap_right _

/-- A put exchanges the records of the section's chain. -/
theorem chainRecords_insertAt {t : List (Nat × SectionEntry)} (h : Rising t) (n : Nat) (e : SectionEntry) :
    (chainRecords (insertAt t n e)).Perm (recordsOf e.chain ++ chainRecords (removeAt t n)) :=
  chainRecords_perm (insertAt_perm h n e)

theorem chainRecords_of_lookup {t : List (Nat × SectionEntry)} (h : Rising t) {n : Nat} {e : SectionEntry}
    (hn : lookup t n = some e) : (chainRecords t).Perm (recordsOf e.chain ++ chainRecords (removeAt t n)) :=
  chainRecords_perm (perm_of_lookup h hn)

/-- A chain has a record naming a section with a condition. -/
def Names (chain : List ConflictRecord) (other : Nat) (cond : ConflictCondition) : Prop :=
  ∃ r ∈ chain, r.other = other ∧ r.condition = cond

theorem chainHas_iff (s : State) (a b : Nat) (cond : ConflictCondition) :
    s.ChainHas a b cond ↔ Names (s.chainOf a) b cond := Iff.rfl

theorem chainOf_of_lookup {s : State} {n : Nat} {e : SectionEntry} (h : lookup s.sections n = some e) :
    s.chainOf n = e.chain := by
  simp [State.chainOf, h]

theorem chainOf_of_lookup_none {s : State} {n : Nat} (h : lookup s.sections n = none) : s.chainOf n = [] := by
  simp [State.chainOf, h]

/-- A chain that may stand on a section: at most 16 records, no section named twice, its own not named (R15). -/
structure ChainSuits (a : Nat) (chain : List ConflictRecord) : Prop where
  short : chain.length ≤ Config.maxChain
  once : (chain.map (fun r => r.other)).Nodup
  notSelf : ∀ r ∈ chain, r.other ≠ a

theorem PoolLawful.suits {s : State} (h : s.PoolLawful) (a : Nat) : ChainSuits a (s.chainOf a) :=
  ⟨h.short a, h.once a, h.notSelf a⟩

/-! ### Changes that leave every chain -/

/-- The relation "keeps the pool lawful". -/
def KeepsPool (s t : State) : Prop := s.PoolLawful → t.PoolLawful

/-- The pool is a matter of the sections and the free list alone. -/
theorem keepsPool_of_eq {s t : State} (hs : t.sections = s.sections) (hf : t.freeRecords = s.freeRecords) :
    KeepsPool s t := by
  have chain : ∀ a, t.chainOf a = s.chainOf a := fun a => by simp only [State.chainOf, hs]
  intro h
  refine ⟨hs ▸ h.rising, ?_, ?_, ?_, ?_, ?_⟩
  · rw [poolRecords_eq, hs, hf]; exact h.records
  · simpa only [chain] using h.short
  · simpa only [chain] using h.once
  · simpa only [chain] using h.notSelf
  · simpa only [chainHas_iff, chain] using h.symmetric

theorem SameMap.keepsPool {s t : State} (h : SameMap s t) : KeepsPool s t := keepsPool_of_eq h.sections h.freeRecords

theorem isFrame_keepsPool : IsFrame KeepsPool where
  ports h := SameMap.keepsPool h.map
  trans h k := k ∘ h

theorem TrafficOnly.keepsPool {s t : State} (h : TrafficOnly s t) : KeepsPool s t := SameMap.keepsPool h.map

/-- A section entry is put in whose chain is the one that section had, empty where it was not loaded. -/
theorem putEntry_keepsPool {s : State} {n : Nat} {e : SectionEntry} (he : e.chain = s.chainOf n) :
    KeepsPool s { s with sections := insertAt s.sections n e } := by
  intro h
  have chain : ∀ a, State.chainOf { s with sections := insertAt s.sections n e } a = s.chainOf a := by
    intro a
    by_cases ha : a = n
    · subst ha; simp [State.chainOf, lookup_insertAt, he]
    · simp [State.chainOf, lookup_insertAt, ha]
  refine ⟨rising_insertAt h.rising n e, ?_, ?_, ?_, ?_, ?_⟩
  · refine List.Perm.trans ?_ h.records
    rw [poolRecords_eq, poolRecords_eq]
    refine List.Perm.append_left _ ((chainRecords_insertAt h.rising n e).trans ?_)
    rw [he]
    cases hn : lookup s.sections n with
    | none => simp [chainOf_of_lookup_none hn, removeAt_of_lookup_none hn, recordsOf]
    | some b => rw [chainOf_of_lookup hn]; exact (chainRecords_of_lookup h.rising hn).symm
  · simpa only [chain] using h.short
  · simpa only [chain] using h.once
  · simpa only [chain] using h.notSelf
  · simpa only [chainHas_iff, chain] using h.symmetric

/-! ### A change of two chains at once -/

/-- The state with the chains of two sections and the free list replaced, the second section's entry put in last. -/
def putPair (a b : Nat) (ea eb : SectionEntry) (free : List Nat) (s : State) : State :=
  { s with freeRecords := free, sections := insertAt (insertAt s.sections a ea) b eb }

theorem chainOf_putPair (a b : Nat) (ea eb : SectionEntry) (free : List Nat) (s : State) (x : Nat) :
    (putPair a b ea eb free s).chainOf x = if x = b then eb.chain else if x = a then ea.chain else s.chainOf x := by
  simp only [putPair, State.chainOf, lookup_insertAt]
  split
  · rfl
  · split <;> rfl

/-- The records on the chains of two loaded sections, and those of the rest. -/
theorem chainRecords_pair {t : List (Nat × SectionEntry)} (h : Rising t) {a b : Nat} {ea eb : SectionEntry} (hab : a ≠ b)
    (ha : lookup t a = some ea) (hb : lookup t b = some eb) :
    (chainRecords t).Perm
      (recordsOf eb.chain ++ (recordsOf ea.chain ++ chainRecords (removeAt (removeAt t a) b))) := by
  have hb' : lookup (removeAt t a) b = some eb := by rw [lookup_removeAt, if_neg (Ne.symm hab), hb]
  refine (chainRecords_of_lookup h ha).trans ?_
  refine ((chainRecords_of_lookup (rising_removeAt h a) hb').append_left _).trans ?_
  rw [← List.append_assoc, ← List.append_assoc]
  exact List.perm_append_comm.append_right _

theorem removeAt_insertAt_same {t : List (Nat × SectionEntry)} (h : Rising t) (n : Nat) (e : SectionEntry) :
    (removeAt (insertAt t n e) n).Perm (removeAt t n) := by
  have := (insertAt_perm h n e).filter (fun x => x.1 ≠ n)
  simpa [removeAt, List.filter_filter] using this

/-- Two chains and the free list are replaced: with the same records in all, suitable chains, the other sections named
as before and each other named alike, the pool stays lawful. -/
theorem putPair_keepsPool {s : State} {a b : Nat} {ea eb fa fb : SectionEntry} {free : List Nat} (hab : a ≠ b)
    (ha : lookup s.sections a = some ea) (hb : lookup s.sections b = some eb)
    (records : (free ++ (recordsOf fb.chain ++ recordsOf fa.chain)).Perm
      (s.freeRecords ++ (recordsOf eb.chain ++ recordsOf ea.chain)))
    (suitsA : ChainSuits a fa.chain) (suitsB : ChainSuits b fb.chain)
    (othersA : ∀ x cond, x ≠ b → (Names fa.chain x cond ↔ Names ea.chain x cond))
    (othersB : ∀ x cond, x ≠ a → (Names fb.chain x cond ↔ Names eb.chain x cond))
    (between : ∀ cond, Names fa.chain b cond ↔ Names fb.chain a cond) :
    KeepsPool s (putPair a b fa fb free s) := by
  intro h
  have hr : Rising (insertAt s.sections a fa) := rising_insertAt h.rising a fa
  have suits : ∀ x, ChainSuits x ((putPair a b fa fb free s).chainOf x) := by
    intro x
    rw [chainOf_putPair]
    split
    · rename_i hx; exact hx ▸ suitsB
    · split
      · rename_i hx; exact hx ▸ suitsA
      · exact PoolLawful.suits h x
  refine ⟨rising_insertAt hr b fb, ?_, fun x => (suits x).short, fun x => (suits x).once, fun x => (suits x).notSelf, ?_⟩
  · refine List.Perm.trans ?_ h.records
    rw [poolRecords_eq, poolRecords_eq]
    have new : (chainRecords (putPair a b fa fb free s).sections).Perm
        (recordsOf fb.chain ++ (recordsOf fa.chain ++ chainRecords (removeAt (removeAt s.sections a) b))) := by
      have ha' : lookup (putPair a b fa fb free s).sections a = some fa := by
        simp [putPair, lookup_insertAt, hab]
      have hb' : lookup (putPair a b fa fb free s).sections b = some fb := by simp [putPair, lookup_insertAt]
      refine (chainRecords_pair (rising_insertAt hr b fb) hab ha' hb').trans ?_
      refine List.Perm.append_left _ (List.Perm.append_left _ (chainRecords_perm ?_))
      have swap : ∀ t : List (Nat × SectionEntry), removeAt (removeAt t a) b = removeAt (removeAt t b) a := fun t => by
        simp only [removeAt, List.filter_filter, Bool.and_comm]
      rw [swap]
      refine (List.Perm.filter _ (removeAt_insertAt_same hr b fb)).trans ?_
      change (removeAt (removeAt _ b) a).Perm _
      rw [← swap]
      exact List.Perm.filter _ (removeAt_insertAt_same h.rising a fa)
    refine (new.append_left _).trans (List.Perm.trans ?_ ((chainRecords_pair h.rising hab ha hb).append_left _).symm)
    change (free ++ _).Perm _
    simpa only [List.append_assoc] using records.append_right (chainRecords (removeAt (removeAt s.sections a) b))
  · have old : ∀ x y cond, Names (s.chainOf x) y cond ↔ Names (s.chainOf y) x cond := h.symmetric
    have oldA : s.chainOf a = ea.chain := chainOf_of_lookup ha
    have oldB : s.chainOf b = eb.chain := chainOf_of_lookup hb
    -- what each section outside the pair, seen from the pair, is named with is what it was
    have fromA : ∀ x cond, x ≠ b → (Names fa.chain x cond ↔ Names (s.chainOf x) a cond) := fun x cond hx => by
      rw [othersA x cond hx, ← oldA, old]
    have fromB : ∀ x cond, x ≠ a → (Names fb.chain x cond ↔ Names (s.chainOf x) b cond) := fun x cond hx => by
      rw [othersB x cond hx, ← oldB, old]
    intro x y cond
    simp only [chainHas_iff, chainOf_putPair]
    by_cases hxb : x = b
    · by_cases hyb : y = b
      · subst hxb; subst hyb; rfl
      · by_cases hya : y = a
        · subst hxb; subst hya; simp only [if_true, if_neg hab]; exact (between cond).symm
        · subst hxb; simp only [if_true, if_neg hyb, if_neg hya]; exact fromB y cond hya
    · by_cases hxa : x = a
      · by_cases hyb : y = b
        · subst hxa; subst hyb; simp only [if_true, if_neg hab]; exact between cond
        · by_cases hya : y = a
          · subst hxa; subst hya; rfl
          · subst hxa; simp only [if_true, if_neg hyb, if_neg hya, if_neg hxb]; exact fromA y cond hyb
      · by_cases hyb : y = b
        · subst hyb; simp only [if_true, if_neg hxb, if_neg hxa]; exact (fromB x cond hxa).symm
        · by_cases hya : y = a
          · subst hya; simp only [if_true, if_neg hxb, if_neg hxa, if_neg hyb]; exact (fromA x cond hxb).symm
          · simp only [if_neg hxb, if_neg hxa, if_neg hyb, if_neg hya]; exact old x y cond

end Sys2Proof.Proofs
end

section
/-! CONFLICT_ADD and CONFLICT_REMOVE (R14 to R19): the pair of chains each leaves, that each keeps the pool lawful, and
that every step does. -/

namespace Sys2Proof.Proofs

open Sys2Proof Sys2Proof.Machine Sys2Proof.Laws

/-! ### The chains of a changed pair -/

/-- A chain whose record naming a section has another condition (R18). -/
def withCondition (other : Nat) (cond : ConflictCondition) (chain : List ConflictRecord) : List ConflictRecord :=
  chain.map (fun r => if r.other = other then { r with condition := cond } else r)

/-- A chain without the record naming a section (R19). -/
def without (other : Nat) (chain : List ConflictRecord) : List ConflictRecord := chain.filter (fun r => r.other ≠ other)

section

variable {chain : List ConflictRecord} {a b n x : Nat} {cond d : ConflictCondition}

theorem names_append : Names (chain ++ [⟨n, b, cond⟩]) x d ↔ Names chain x d ∨ (b = x ∧ cond = d) := by
  simp [Names, or_and_right, exists_or]

theorem names_withCondition_same : Names (withCondition b cond chain) b d ↔ (∃ r ∈ chain, r.other = b) ∧ cond = d := by
  constructor
  · rintro ⟨r, hr, ho, hd⟩
    obtain ⟨q, hq, rfl⟩ := List.mem_map.mp hr
    by_cases h : q.other = b
    · exact ⟨⟨q, hq, h⟩, by simpa [h] using hd⟩
    · exact absurd ho (by simp [h])
  · rintro ⟨⟨r, hr, ho⟩, hd⟩
    exact ⟨_, List.mem_map.mpr ⟨r, hr, rfl⟩, by simp [ho], by simp [ho, hd]⟩

theorem names_withCondition_other (h : x ≠ b) : Names (withCondition b cond chain) x d ↔ Names chain x d := by
  constructor
  · rintro ⟨r, hr, ho, hd⟩
    obtain ⟨q, hq, rfl⟩ := List.mem_map.mp hr
    by_cases hq' : q.other = b
    · exact absurd ho (by simpa [hq'] using h.symm)
    · exact ⟨q, hq, by simpa [hq'] using ho, by simpa [hq'] using hd⟩
  · rintro ⟨r, hr, ho, hd⟩
    have hb : r.other ≠ b := ho ▸ h
    exact ⟨r, List.mem_map.mpr ⟨r, hr, if_neg hb⟩, ho, hd⟩

theorem names_without : Names (without b chain) x d ↔ x ≠ b ∧ Names chain x d := by
  constructor
  · rintro ⟨r, hr, ho, hd⟩
    obtain ⟨hm, hb⟩ := List.mem_filter.mp hr
    exact ⟨ho ▸ of_decide_eq_true hb, r, hm, ho, hd⟩
  · rintro ⟨h, r, hr, ho, hd⟩
    exact ⟨r, List.mem_filter.mpr ⟨hr, by simpa [ho] using h⟩, ho, hd⟩

theorem map_other_withCondition : (withCondition b cond chain).map (fun r => r.other) = chain.map (fun r => r.other) := by
  unfold withCondition
  rw [List.map_map]
  exact List.map_congr_left (fun r _ => by simp only [Function.comp]; split <;> rfl)

theorem recordsOf_withCondition : recordsOf (withCondition b cond chain) = recordsOf chain := by
  unfold recordsOf withCondition
  rw [List.map_map]
  exact List.map_congr_left (fun r _ => by simp only [Function.comp]; split <;> rfl)

theorem recordsOf_append : recordsOf (chain ++ [⟨n, b, cond⟩]) = recordsOf chain ++ [n] := by simp [recordsOf]

/-- A section named once leaves with exactly one record. -/
theorem recordsOf_without (h : (chain.map (fun r => r.other)).Nodup) {r : ConflictRecord}
    (hr : chain.find? (fun r => r.other = b) = some r) : (recordsOf chain).Perm (r.record :: recordsOf (without b chain)) := by
  induction chain with
  | nil => cases hr
  | cons q l ih =>
    obtain ⟨hq, hl⟩ := List.nodup_cons.mp h
    by_cases hb : q.other = b
    · obtain rfl : q = r := by simpa [hb] using hr
      have rest : without b (q :: l) = l := by
        unfold without
        rw [List.filter_cons_of_neg (by simpa using hb), List.filter_eq_self]
        intro x hx
        simpa using fun e : x.other = b => hq (List.mem_map.mpr ⟨x, hx, e.trans hb.symm⟩)
      rw [rest]
      exact List.Perm.refl _
    · have rest : without b (q :: l) = q :: without b l := List.filter_cons_of_pos (by simpa using hb)
      rw [rest]
      exact ((ih hl (by simpa [hb] using hr)).cons _).trans (List.Perm.swap _ _ _)

theorem ChainSuits.append (h : ChainSuits a chain) (hab : b ≠ a) (hl : chain.length < Config.maxChain)
    (hn : ∀ r ∈ chain, r.other ≠ b) : ChainSuits a (chain ++ [⟨n, b, cond⟩]) where
  short := by simpa using hl
  once := by
    rw [List.map_append]
    refine List.nodup_append.mpr ⟨h.once, by simp, ?_⟩
    simpa using hn
  notSelf r hr := by
    rcases List.mem_append.mp hr with hr | hr
    · exact h.notSelf r hr
    · cases List.mem_singleton.mp hr; exact hab

theorem ChainSuits.withCondition (h : ChainSuits a chain) : ChainSuits a (withCondition b cond chain) where
  short := by simpa [Proofs.withCondition] using h.short
  once := by rw [map_other_withCondition]; exact h.once
  notSelf r hr := by
    obtain ⟨q, hq, rfl⟩ := List.mem_map.mp hr
    have := h.notSelf q hq
    split <;> exact this

theorem ChainSuits.without (h : ChainSuits a chain) : ChainSuits a (without b chain) where
  short := (List.length_filter_le _ _).trans h.short
  once := h.once.sublist (List.filter_sublist.map _)
  notSelf r hr := h.notSelf r (List.mem_of_mem_filter hr)

end

/-! ### What the conflict operations do to loaded sections -/

section

variable {s : State} {a b : Nat} {ea eb : SectionEntry} (hab : a ≠ b)
  (ha : lookup s.sections a = some ea) (hb : lookup s.sections b = some eb)

theorem setChain_eq (f : List ConflictRecord → List ConflictRecord) {u : State} (hu : lookup u.sections a = some ea) :
    setChain a f u = { u with sections := insertAt u.sections a { ea with chain := f ea.chain } } := by
  simp [setChain, hu]

include hab ha hb

theorem setChain_setChain_eq (f g : List ConflictRecord → List ConflictRecord) :
    setChain b g (setChain a f s) =
      putPair a b { ea with chain := f ea.chain } { eb with chain := g eb.chain } s.freeRecords s := by
  rw [setChain_eq f ha, setChain_eq g (ea := eb)]
  · rfl
  · rw [lookup_insertAt, if_neg (Ne.symm hab), hb]

theorem addPair_eq {f g : Nat} {rest : List Nat} (hf : s.freeRecords = f :: g :: rest) (cond : ConflictCondition) :
    addPair a b cond s = putPair a b { ea with chain := ea.chain ++ [⟨f, b, cond⟩] }
      { eb with chain := eb.chain ++ [⟨g, a, cond⟩] } rest s := by
  have first : appendConflict a b cond s =
      { s with freeRecords := g :: rest, sections := insertAt s.sections a { ea with chain := ea.chain ++ [⟨f, b, cond⟩] } } := by
    unfold appendConflict
    rw [hf]
    exact setChain_eq _ ha
  unfold addPair
  rw [first]
  change setChain b (fun ch => ch ++ [⟨g, a, cond⟩]) { s with
    freeRecords := rest
    sections := insertAt s.sections a { ea with chain := ea.chain ++ [⟨f, b, cond⟩] } } = _
  refine setChain_eq _ ?_
  rw [lookup_insertAt, if_neg (Ne.symm hab), hb]

theorem removePair_eq {ra rb : ConflictRecord} (hra : s.conflictBetween a b = some ra)
    (hrb : s.conflictBetween b a = some rb) :
    removePair a b s = putPair a b { ea with chain := without b ea.chain } { eb with chain := without a eb.chain }
      (rb.record :: ra.record :: s.freeRecords) s := by
  have first : unlinkConflict a b s = { s with
      freeRecords := ra.record :: s.freeRecords
      sections := insertAt s.sections a { ea with chain := without b ea.chain } } := by
    unfold unlinkConflict
    rw [hra]
    exact setChain_eq _ ha
  have hb' : lookup (unlinkConflict a b s).sections b = some eb := by
    rw [first, lookup_insertAt, if_neg (Ne.symm hab), hb]
  have hrb' : (unlinkConflict a b s).conflictBetween b a = some rb := by
    simpa only [State.conflictBetween, chainOf_of_lookup hb, chainOf_of_lookup hb'] using hrb
  unfold removePair unlinkConflict
  change (match (unlinkConflict a b s).conflictBetween b a with
    | some r => setChain b (without a) { unlinkConflict a b s with
        freeRecords := r.record :: (unlinkConflict a b s).freeRecords }
    | none => unlinkConflict a b s) = _
  rw [hrb']
  refine (setChain_eq _ (ea := eb) (u := { unlinkConflict a b s with
    freeRecords := rb.record :: (unlinkConflict a b s).freeRecords }) hb').trans ?_
  rw [first]
  rfl

/-! ### The pool stays lawful -/

theorem addPair_keepsPool (hn : s.conflictBetween a b = none) (hfree : 2 ≤ s.freeRecords.length)
    (hla : (s.chainOf a).length < Config.maxChain) (hlb : (s.chainOf b).length < Config.maxChain)
    (cond : ConflictCondition) : KeepsPool s (addPair a b cond s) := by
  intro h
  obtain ⟨f, g, rest, hf⟩ : ∃ f g rest, s.freeRecords = f :: g :: rest := by
    match hs : s.freeRecords, hfree with
    | f :: g :: rest, _ => exact ⟨f, g, rest, rfl⟩
  have oldA := chainOf_of_lookup ha
  have oldB := chainOf_of_lookup hb
  have unnamedA : ∀ r ∈ ea.chain, r.other ≠ b := by
    simpa [State.conflictBetween, oldA] using hn
  have unnamedB : ∀ r ∈ eb.chain, r.other ≠ a := by
    intro r hr ho
    obtain ⟨q, hq, hqo, _⟩ := (h.symmetric b a r.condition).mp ⟨r, oldB ▸ hr, ho, rfl⟩
    exact unnamedA q (oldA ▸ hq) hqo
  have no {chain : List ConflictRecord} {x : Nat} (hx : ∀ r ∈ chain, r.other ≠ x) (d : ConflictCondition) :
      ¬Names chain x d := fun ⟨r, hr, ho, _⟩ => hx r hr ho
  rw [addPair_eq hab ha hb hf]
  refine putPair_keepsPool hab ha hb ?_ ?_ ?_ ?_ ?_ ?_ h
  · rw [recordsOf_append, recordsOf_append, hf]
    have move : ∀ l : List Nat, ∀ n, (l ++ [n]).Perm (n :: l) := fun l n => List.perm_append_singleton n l
    calc rest ++ (recordsOf eb.chain ++ [g] ++ (recordsOf ea.chain ++ [f]))
        |>.Perm (rest ++ (g :: recordsOf eb.chain ++ (f :: recordsOf ea.chain))) :=
          ((move _ g).append (move _ f)).append_left _
      _ |>.Perm (rest ++ (f :: g :: (recordsOf eb.chain ++ recordsOf ea.chain))) :=
          List.Perm.append_left _ (List.perm_middle (l₁ := g :: recordsOf eb.chain))
      _ |>.Perm (f :: g :: rest ++ (recordsOf eb.chain ++ recordsOf ea.chain)) :=
          List.perm_middle.trans (List.perm_middle.cons f)
  · exact ((oldA ▸ PoolLawful.suits h a).append (Ne.symm hab) (oldA ▸ hla) unnamedA)
  · exact ((oldB ▸ PoolLawful.suits h b).append hab (oldB ▸ hlb) unnamedB)
  · intro x d hx; simp [names_append, Ne.symm hx]
  · intro x d hx; simp [names_append, Ne.symm hx]
  · intro d; simp [names_append, no unnamedA, no unnamedB]

theorem changePair_keepsPool {r : ConflictRecord} (hr : s.conflictBetween a b = some r) (old cond : ConflictCondition) :
    KeepsPool s (changePair a b old cond s) := by
  have oldA := chainOf_of_lookup ha
  have oldB := chainOf_of_lookup hb
  have changed : KeepsPool s (changeConflict b a cond (changeConflict a b cond s)) := by
    intro h
    have namedA : ∃ r ∈ ea.chain, r.other = b :=
      ⟨r, oldA ▸ List.mem_of_find?_eq_some hr, by simpa using List.find?_some hr⟩
    have namedB : ∃ r ∈ eb.chain, r.other = a := by
      obtain ⟨q, hq, ho⟩ := namedA
      obtain ⟨p, hp, hpo, _⟩ := (h.symmetric a b q.condition).mp ⟨q, oldA.symm ▸ hq, ho, rfl⟩
      exact ⟨p, oldB ▸ hp, hpo⟩
    have put : changeConflict b a cond (changeConflict a b cond s) =
        putPair a b { ea with chain := withCondition b cond ea.chain } { eb with chain := withCondition a cond eb.chain }
          s.freeRecords s := setChain_setChain_eq hab ha hb _ _
    rw [put]
    refine putPair_keepsPool hab ha hb ?_ ?_ ?_ ?_ ?_ ?_ h
    · simp only [recordsOf_withCondition]; exact List.Perm.refl _
    · exact (oldA ▸ PoolLawful.suits h a).withCondition
    · exact (oldB ▸ PoolLawful.suits h b).withCondition
    · intro x d hx; exact names_withCondition_other hx
    · intro x d hx; exact names_withCondition_other hx
    · intro d; simp only [names_withCondition_same, namedA, namedB]
  unfold changePair
  dsimp only
  split
  · exact isFrame_keepsPool.trans changed (TrafficOnly.keepsPool (wake_trafficOnly _ _ _))
  · exact changed

theorem removePair_keepsPool {ra : ConflictRecord} (hra : s.conflictBetween a b = some ra) :
    KeepsPool s (removePair a b s) := by
  intro h
  have oldA := chainOf_of_lookup ha
  have oldB := chainOf_of_lookup hb
  obtain ⟨rb, hrb⟩ : ∃ rb, s.conflictBetween b a = some rb := by
    obtain ⟨q, hq, ho, _⟩ := (h.symmetric a b ra.condition).mp
      ⟨ra, List.mem_of_find?_eq_some hra, by simpa using List.find?_some hra, rfl⟩
    exact Option.isSome_iff_exists.mp (List.find?_isSome.mpr ⟨q, hq, by simpa using ho⟩)
  have suitsA : ChainSuits a ea.chain := oldA ▸ PoolLawful.suits h a
  have suitsB : ChainSuits b eb.chain := oldB ▸ PoolLawful.suits h b
  rw [removePair_eq hab ha hb hra hrb]
  refine putPair_keepsPool hab ha hb ?_ suitsA.without suitsB.without ?_ ?_ ?_ h
  · have goneA := recordsOf_without suitsA.once (by simpa only [State.conflictBetween, oldA] using hra)
    have goneB := recordsOf_without suitsB.once (by simpa only [State.conflictBetween, oldB] using hrb)
    calc rb.record :: ra.record :: s.freeRecords ++ (recordsOf (without a eb.chain) ++ recordsOf (without b ea.chain))
        |>.Perm (s.freeRecords ++ [rb.record, ra.record] ++
            (recordsOf (without a eb.chain) ++ recordsOf (without b ea.chain))) :=
          (List.perm_append_comm (l₁ := [rb.record, ra.record])).append_right _
      _ = s.freeRecords ++ (rb.record :: ra.record ::
            (recordsOf (without a eb.chain) ++ recordsOf (without b ea.chain))) := by simp
      _ |>.Perm (s.freeRecords ++ ((rb.record :: recordsOf (without a eb.chain)) ++
            (ra.record :: recordsOf (without b ea.chain)))) :=
          (List.perm_middle.symm.cons _).append_left _
      _ |>.Perm (s.freeRecords ++ (recordsOf eb.chain ++ recordsOf ea.chain)) :=
          (goneB.append goneA).symm.append_left _
  · intro x d hx; simp [names_without, hx]
  · intro x d hx; simp [names_without, hx]
  · intro d; simp [names_without]

end

/-! ### Every map command keeps the pool lawful -/

theorem exists_entry_of_loaded {s : State} {n : Nat} (h : s.loaded n = true) : ∃ e, lookup s.sections n = some e :=
  Option.isSome_iff_exists.mp h

variable (s : State)

theorem loadSection_keepsPool (n : Nat) (d : SectionRecord) : KeepsPool s (loadSection n d s) := by
  unfold loadSection
  split
  · rename_i h; exact putEntry_keepsPool (chainOf_of_lookup_none h).symm
  · rename_i h; exact putEntry_keepsPool (chainOf_of_lookup h).symm

theorem loadSections_keepsPool (bs : List Byte) (first k i : Nat) : KeepsPool s (loadSections bs first k i s).1 := by
  induction k generalizing i s with
  | zero => exact id
  | succ k ih =>
    unfold loadSections
    split
    · exact id
    · exact id
    · exact isFrame_keepsPool.trans (loadSection_keepsPool s _ _) (ih _ _)

theorem loadZone_keepsPool (z c : Nat) : KeepsPool s (loadZone z c s) := by
  unfold loadZone
  split
  · exact keepsPool_of_eq rfl rfl
  · rename_i e _
    have stored : KeepsPool s { s with zones := insertAt s.zones z { e with capacity := c } } := keepsPool_of_eq rfl rfl
    dsimp only
    split
    · exact isFrame_keepsPool.trans stored (TrafficOnly.keepsPool (wake_trafficOnly _ _ _))
    · exact stored

theorem loadZones_keepsPool (bs : List Byte) (first k i : Nat) : KeepsPool s (loadZones bs first k i s).1 := by
  induction k generalizing i s with
  | zero => exact id
  | succ k ih =>
    unfold loadZones
    split
    · exact id
    · exact isFrame_keepsPool.trans (loadZone_keepsPool s _ _) (ih _ _)

theorem setSectionOpen_keepsPool (n : Nat) (o : Bool) : KeepsPool s (setSectionOpen n o s) := by
  unfold setSectionOpen
  split
  · rename_i h; exact putEntry_keepsPool (chainOf_of_lookup h).symm
  · exact id

theorem setZoneOpen_keepsPool (z : Nat) (o : Bool) : KeepsPool s (setZoneOpen z o s) := by
  unfold setZoneOpen
  split <;> exact keepsPool_of_eq rfl rfl

theorem handleSectionLoad_keepsPool (m : Mgmt) : KeepsPool s (handleSectionLoad m s) := by
  unfold handleSectionLoad
  dsimp only
  split
  · exact isFrame_keepsPool.answer id m _ _
  · exact isFrame_keepsPool.answer (loadSections_keepsPool s _ _ _ _) m _ _

theorem handleZoneLoad_keepsPool (m : Mgmt) : KeepsPool s (handleZoneLoad m s) := by
  unfold handleZoneLoad
  dsimp only
  split
  · exact isFrame_keepsPool.answer id m _ _
  · exact isFrame_keepsPool.answer (loadZones_keepsPool s _ _ _ _) m _ _

theorem handleSectionOpen_keepsPool (m : Mgmt) : KeepsPool s (handleSectionOpen m s) := by
  refine isFrame_keepsPool.onSection (fun n e u => ?_) m s
  split
  · exact id
  · exact isFrame_keepsPool.trans (setSectionOpen_keepsPool u n true) (TrafficOnly.keepsPool (wake_trafficOnly _ _ _))

theorem handleSectionClose_keepsPool (m : Mgmt) : KeepsPool s (handleSectionClose m s) := by
  refine isFrame_keepsPool.onSection (fun n e u => ?_) m s
  split
  · exact isFrame_keepsPool.trans (setSectionOpen_keepsPool u n false)
      (TrafficOnly.keepsPool (closeTraffic_trafficOnly _ _))
  · exact id

theorem handleZoneOpen_keepsPool (m : Mgmt) : KeepsPool s (handleZoneOpen m s) := by
  refine isFrame_keepsPool.onZone (fun z e u => ?_) m s
  split
  · exact id
  · exact isFrame_keepsPool.trans (setZoneOpen_keepsPool u z true) (TrafficOnly.keepsPool (wake_trafficOnly _ _ _))

theorem handleZoneClose_keepsPool (m : Mgmt) : KeepsPool s (handleZoneClose m s) := by
  refine isFrame_keepsPool.onZone (fun z e u => ?_) m s
  split
  · exact isFrame_keepsPool.trans (setZoneOpen_keepsPool u z false)
      (TrafficOnly.keepsPool (closeTraffic_trafficOnly _ _))
  · exact id

theorem handleConflictAdd_keepsPool (m : Mgmt) : KeepsPool s (handleConflictAdd m s) := by
  refine isFrame_keepsPool.handleConflictAdd m s ?_ ?_
  · intro a b r cond hab la lb hr
    obtain ⟨ea, ha⟩ := exists_entry_of_loaded la
    obtain ⟨eb, hb⟩ := exists_entry_of_loaded lb
    exact changePair_keepsPool hab ha hb hr _ cond
  · intro a b cond hab la lb hn hf hca hcb
    obtain ⟨ea, ha⟩ := exists_entry_of_loaded la
    obtain ⟨eb, hb⟩ := exists_entry_of_loaded lb
    exact addPair_keepsPool hab ha hb hn hf hca hcb cond

theorem handleConflictRemove_keepsPool (m : Mgmt) : KeepsPool s (handleConflictRemove m s) := by
  refine isFrame_keepsPool.handleConflictRemove m s (fun a b r hab la lb hr => ?_)
  obtain ⟨ea, ha⟩ := exists_entry_of_loaded la
  obtain ⟨eb, hb⟩ := exists_entry_of_loaded lb
  exact isFrame_keepsPool.trans (removePair_keepsPool hab ha hb hr) (TrafficOnly.keepsPool (wake_trafficOnly _ _ _))

/-! ### Every command does -/

/-- With no section loaded and every record free, the pool is lawful. -/
theorem poolLawful_of_empty {t : State} (hs : t.sections = []) (hf : t.freeRecords = allRecords) : t.PoolLawful := by
  have chain : ∀ a, t.chainOf a = [] := fun a => chainOf_of_lookup_none (by rw [hs]; rfl)
  refine ⟨hs ▸ List.Pairwise.nil, ?_, ?_, ?_, ?_, ?_⟩
  · rw [poolRecords_eq, hs, hf]
    exact List.Perm.of_eq (List.append_nil _)
  · simp [chain]
  · simp [chain]
  · simp [chain]
  · simp [chainHas_iff, chain, Names]

theorem handleReset_keepsPool (m : Mgmt) : KeepsPool s (handleReset m s) := by
  by_cases h : byteAt m.params 0 = modeFull
  · have hR := isFrame_keepsPool
    unfold handleReset
    split
    · exact hR.refuse s m _
    · rw [if_neg (by rw [h]; decide)]
      exact hR.answer (fun _ => poolLawful_of_empty rfl rfl) m _ _
  · exact SameMap.keepsPool ((handleReset_spares s m h).map rfl)

theorem KeepsPool.ite {s t u : State} {c : Prop} [Decidable c] (ht : KeepsPool s t) (hu : KeepsPool s u) :
    KeepsPool s (if c then t else u) := by
  split
  · exact ht
  · exact hu

theorem handleMgmt_keepsPool (code : Byte) (m : Mgmt) : KeepsPool s (handleMgmt code m s) := by
  have traffic {t : State} (h : TrafficOnly s t) : KeepsPool s t := TrafficOnly.keepsPool h
  unfold handleMgmt
  refine KeepsPool.ite (handleSectionLoad_keepsPool s m) ?_
  refine KeepsPool.ite (handleZoneLoad_keepsPool s m) ?_
  refine KeepsPool.ite (handleSectionOpen_keepsPool s m) ?_
  refine KeepsPool.ite (handleSectionClose_keepsPool s m) ?_
  refine KeepsPool.ite (handleConflictAdd_keepsPool s m) ?_
  refine KeepsPool.ite (handleConflictRemove_keepsPool s m) ?_
  refine KeepsPool.ite (handleZoneOpen_keepsPool s m) ?_
  refine KeepsPool.ite (handleZoneClose_keepsPool s m) ?_
  refine KeepsPool.ite (traffic (handleCarrierAdmit_trafficOnly s m)) ?_
  refine KeepsPool.ite (traffic (handleCarrierRetire_trafficOnly s m)) ?_
  refine KeepsPool.ite (traffic (handleCarrierClear_trafficOnly s m)) ?_
  refine KeepsPool.ite (traffic (handleCarrierRecall_trafficOnly s m)) ?_
  refine KeepsPool.ite (traffic (handleCarrierQuery_trafficOnly s m)) ?_
  refine KeepsPool.ite (traffic (PortsOnly.trafficOnly (handleSectionQuery_portsOnly s m))) ?_
  refine KeepsPool.ite (traffic (PortsOnly.trafficOnly (handlePartQuery_portsOnly s m))) ?_
  refine KeepsPool.ite (SameMap.keepsPool ((handleParamsSet_spares s m).map rfl)) ?_
  refine KeepsPool.ite (SameMap.keepsPool ((handleStart_spares s m).map rfl)) ?_
  refine KeepsPool.ite (SameMap.keepsPool ((handleHalt_spares s m).map rfl)) ?_
  refine KeepsPool.ite (handleReset_keepsPool s m) ?_
  exact isFrame_keepsPool.refuse s m _

theorem classifyD_keepsPool (f : Frame) : KeepsPool s (classifyD f s) := by
  have ports {t : State} (h : PortsOnly s t) : KeepsPool s t := isFrame_keepsPool.ports h
  unfold classifyD
  split
  · split
    · exact ports (raise_portsOnly s .d _)
    · exact handleMgmt_keepsPool s _ _
  · split
    · exact TrafficOnly.keepsPool (handleRoute_trafficOnly s _)
    · split
      · exact ports (raise_portsOnly s .d _)
      · split
        · exact id
        · exact ports (offerForward_portsOnly s .c f)

theorem exec_keepsPool_of_writesMap {i : Instr} {t : State} (h : exec i s = .next t) (hw : writesMap i = true) :
    KeepsPool s t := by
  have taken := @IsFrame.takeFrame _ isFrame_keepsPool
  cases i <;> first | exact absurd hw Bool.false_ne_true | cases h
  case powerOn => exact fun _ => poolLawful_of_empty rfl rfl
  case portDClassify =>
    exact isFrame_keepsPool.whileActive
      (fun u => isFrame_keepsPool.takeFront (fun f v => classifyD_keepsPool v f) .d u) s
  case sectionLoad m => exact taken (fun u => handleSectionLoad_keepsPool u m) _ _ s
  case zoneLoad m => exact taken (fun u => handleZoneLoad_keepsPool u m) _ _ s
  case sectionOpen m => exact taken (fun u => handleSectionOpen_keepsPool u m) _ _ s
  case sectionClose m => exact taken (fun u => handleSectionClose_keepsPool u m) _ _ s
  case zoneOpen m => exact taken (fun u => handleZoneOpen_keepsPool u m) _ _ s
  case zoneClose m => exact taken (fun u => handleZoneClose_keepsPool u m) _ _ s
  case conflictAdd m => exact taken (fun u => handleConflictAdd_keepsPool u m) _ _ s
  case conflictRemove m => exact taken (fun u => handleConflictRemove_keepsPool u m) _ _ s
  case resetFull r => exact taken (fun u => handleReset_keepsPool u _) _ _ s

/-- A command that does not write the map leaves the pool as it was; those that do keep it lawful by their handlers. -/
theorem exec_keepsPool {i : Instr} {t : State} (h : exec i s = .next t) : KeepsPool s t := by
  cases hw : writesMap i with
  | false => exact SameMap.keepsPool ((exec_spares i s t h).map hw)
  | true => exact exec_keepsPool_of_writesMap s h hw

/-- Settles O56: an idle step changes nothing, and a command is taken off the queue, which the pool does not read. -/
theorem stepKeepsPoolLawful : Obligations.StepKeepsPoolLawful := by
  intro s t h
  unfold step at h
  split at h
  · cases h; exact id
  · rename_i rest _
    exact isFrame_keepsPool.trans (t := { s with pending := rest }) (keepsPool_of_eq rfl rfl) (exec_keepsPool _ h)

end Sys2Proof.Proofs
end

section
/-! The state after reset meets every invariant: its tables are empty, so each reads as its default. -/

namespace Sys2Proof.Proofs

open Sys2Proof Sys2Proof.Machine Sys2Proof.Laws

/-! ### What the reset state reads as -/

theorem reset_carrier (slot : Nat) : State.reset.carrier slot = .vacant := rfl

theorem reset_chainOf (sec : Nat) : State.reset.chainOf sec = [] := rfl

theorem reset_admitted (slot : Nat) : State.reset.admitted slot = false := rfl

theorem reset_holdStateOf (slot sec : Nat) : State.reset.holdStateOf slot sec = none := rfl

theorem reset_holdsSection (slot sec : Nat) : State.reset.holdsSection slot sec = false := rfl

/-! ### The invariants -/

theorem reset_tablesCanonical : State.reset.TablesCanonical where
  sections := .nil
  zones := .nil
  holds := .nil
  occupancy := .nil
  carriers := .nil
  held := List.forall_mem_nil _
  occupied := List.forall_mem_nil _
  admitted := List.forall_mem_nil _

theorem reset_withinPlaces (p : PortId) : (State.reset.port p).WithinPlaces := by
  cases p <;> exact ⟨Nat.zero_le _, Nat.zero_le _⟩

theorem reset_holdsLawful : State.reset.HoldsLawful := fun _ => ⟨Nat.zero_le _, iff_of_true rfl rfl⟩

theorem reset_partCoherent : State.reset.PartCoherent where
  cause := by decide
  timer := by decide
  carriers _ := rfl

theorem reset_poolLawful : State.reset.PoolLawful := poolLawful_of_empty rfl rfl

theorem reset_paramsLawful : State.reset.params.Lawful State.reset.partStation := by constructor <;> decide

theorem reset_waitsLawful : State.reset.WaitsLawful := ⟨Nat.zero_le _, .nil, List.forall_mem_nil _⟩

theorem reset_trafficLawful : State.reset.TrafficLawful where
  rising := .nil
  slots := List.forall_mem_nil _
  positions := List.forall_mem_nil _
  ranges := List.forall_mem_nil _
  unwaiting := List.forall_mem_nil _
  stations := ⟨.nil, List.forall_mem_nil _⟩
  params := reset_paramsLawful
  waits := reset_waitsLawful

/-- Nobody holds anything and no slot is admitted, so the law of rights holds with nothing to say. -/
theorem reset_rightsLawful : State.reset.RightsLawful where
  tables := reset_tablesCanonical
  pool := reset_poolLawful
  traffic := reset_trafficLawful
  holdRecords := reset_holdsLawful
  held := by simp [reset_holdsSection, reset_admitted]
  holdersOnce _ := .nil
  sectionsOnce := by simp [reset_admitted]
  recalling := by simp [reset_holdStateOf, reset_carrier, Carrier.vacant]
  frozen := by simp [reset_holdStateOf, reset_holdsSection]
  occupancy _ _ := ⟨rfl, Nat.zero_le _⟩
  apart := by simp [reset_chainOf]
  remaining _ := Nat.zero_le _

/-- Settles O59. -/
theorem resetMeetsEveryInvariant : Obligations.ResetMeetsEveryInvariant :=
  ⟨reset_tablesCanonical, reset_withinPlaces, reset_holdsLawful, reset_partCoherent, reset_poolLawful,
    reset_trafficLawful, reset_rightsLawful⟩

end Sys2Proof.Proofs
end

section
/-! CONFLICT_ADD and CONFLICT_REMOVE as their RESULTs and next states (R17 to R19). -/

namespace Sys2Proof.Proofs

open Sys2Proof Sys2Proof.Machine Sys2Proof.Laws

/-! ### What the taking of a frame leaves for its handler to read -/

section

variable (s : State)

@[simp] theorem dropFront_chainOf (p : PortId) (sec : Nat) : (dropFront p s).chainOf sec = s.chainOf sec := by
  cases p <;> rfl
@[simp] theorem dropFront_loaded (p : PortId) (sec : Nat) : (dropFront p s).loaded sec = s.loaded sec := by
  cases p <;> rfl
@[simp] theorem dropFront_conflictBetween (p : PortId) (a b : Nat) :
    (dropFront p s).conflictBetween a b = s.conflictBetween a b := by cases p <;> rfl
@[simp] theorem dropFront_conflictInUse (p : PortId) (a b : Nat) (cond : ConflictCondition) :
    conflictInUse (dropFront p s) a b cond = conflictInUse s a b cond := by cases p <;> rfl
@[simp] theorem dropFront_occupied (p : PortId) (z : Nat) : (dropFront p s).occupied z = s.occupied z := by
  cases p <;> rfl
@[simp] theorem dropFront_referenced (p : PortId) (sec : Nat) :
    (dropFront p s).referenced sec = s.referenced sec := by cases p <;> rfl

end

/-! ### Numbers in range -/

theorem sectionNumber_iff {n : Nat} : sectionNumber n = true ↔ 1 ≤ n ∧ n ≤ 1023 := decide_eq_true_iff

theorem zoneNumber_iff {z : Nat} : zoneNumber z = true ↔ 1 ≤ z ∧ z ≤ 63 := decide_eq_true_iff

theorem not_loaded_iff {s : State} {n : Nat} : s.loaded n = false ↔ lookup s.sections n = none := by
  simp [State.loaded]

theorem loaded_of_lookup {s : State} {n : Nat} {e : SectionEntry} (h : lookup s.sections n = some e) :
    s.loaded n = true := by
  simp [State.loaded, h]

/-! ### CONFLICT_ADD: one equation for each outcome, in the order of the checks -/

theorem ofCode_code (cond : ConflictCondition) : ConflictCondition.ofCode cond.code = some cond := by cases cond <;> rfl

theorem conflictCondition_ofCode_none {b : Byte} (h : b ∉ [(0x01 : Byte), 0x02]) : ConflictCondition.ofCode b = none := by
  obtain ⟨h1, h2⟩ : b ≠ 1 ∧ b ≠ 2 := by simpa using h
  exact (if_neg h1).trans (if_neg h2)

theorem conflictInUse_eq_false_iff {s : State} {a b : Nat} {cond : ConflictCondition} :
    conflictInUse s a b cond = false ↔ ∀ x ∈ s.holders a, ∀ y ∈ s.holders b, x.slot ≠ y.slot →
      cond.applies (s.wide x.slot) (s.wide y.slot) = false := by
  simp [conflictInUse]

theorem conflictBetween_eq_none_iff {s : State} {a b : Nat} :
    s.conflictBetween a b = none ↔ ∀ r ∈ s.chainOf a, r.other ≠ b := by
  simp [State.conflictBetween]

section

variable {s : State} {m : Mgmt} {cond : ConflictCondition}

theorem handleConflictAdd_badCode (hl : m.params.length = 5) (hc : ConflictCondition.ofCode (byteAt m.params 4) = none) :
    handleConflictAdd m s = answer m .badValue [] s := by
  simp [handleConflictAdd, hl, hc, refuse]

variable {a b : Nat} (hl : m.params.length = 5) (hc : ConflictCondition.ofCode (byteAt m.params 4) = some cond)
  (ea : numAt2 m.params 0 = a) (eb : numAt2 m.params 2 = b)

include hl hc ea eb

theorem handleConflictAdd_badNumbers (h : ¬((1 ≤ a ∧ a ≤ 1023) ∧ (1 ≤ b ∧ b ≤ 1023)) ∨ a = b) :
    handleConflictAdd m s = answer m .badValue [] s := by
  by_cases hn : (1 ≤ a ∧ a ≤ 1023) ∧ (1 ≤ b ∧ b ≤ 1023)
  · have hab : a = b := h.resolve_left (not_not.mpr hn)
    simp [handleConflictAdd, hl, hc, ea, eb, hab, refuse]
  · have : (!sectionNumber a || !sectionNumber b) = true := by
      simpa [← Bool.not_eq_true, sectionNumber_iff, ← not_and_or, -not_and] using hn
    simp [handleConflictAdd, hl, hc, ea, eb, this, refuse]

variable (ha : sectionNumber a = true) (hb : sectionNumber b = true) (hab : a ≠ b)

include ha hb hab

theorem handleConflictAdd_notLoaded (h : lookup s.sections a = none ∨ lookup s.sections b = none) :
    handleConflictAdd m s = answer m .noSuch [] s := by
  have : (!s.loaded a || !s.loaded b) = true := by simpa [not_loaded_iff] using h
  simp [handleConflictAdd, hl, hc, ea, eb, ha, hb, hab, this, refuse]

variable (la : s.loaded a = true) (lb : s.loaded b = true)

include la lb

theorem handleConflictAdd_inUse (h : conflictInUse s a b cond = true) :
    handleConflictAdd m s = answer m .inUse [] s := by
  simp [handleConflictAdd, hl, hc, ea, eb, ha, hb, hab, la, lb, h, refuse]

variable (hu : conflictInUse s a b cond = false)

include hu

theorem handleConflictAdd_changed {r : ConflictRecord} (hr : s.conflictBetween a b = some r) :
    handleConflictAdd m s =
      answer m .ok (freeData (changePair a b r.condition cond s)) (changePair a b r.condition cond s) := by
  simp [handleConflictAdd, hl, hc, ea, eb, ha, hb, hab, la, lb, hu, hr]

variable (hn : s.conflictBetween a b = none)

include hn

theorem handleConflictAdd_noRoom (h : s.freeRecords.length < 2) :
    handleConflictAdd m s = answer m .noRoom [] s := by
  simp [handleConflictAdd, hl, hc, ea, eb, ha, hb, hab, la, lb, hu, hn, h, refuse]

variable (hf : 2 ≤ s.freeRecords.length)

include hf

theorem handleConflictAdd_tooLong (h : Config.maxChain ≤ (s.chainOf a).length ∨ Config.maxChain ≤ (s.chainOf b).length) :
    handleConflictAdd m s = answer m .tooLong [] s := by
  simp [handleConflictAdd, hl, hc, ea, eb, ha, hb, hab, la, lb, hu, hn, Nat.not_lt.mpr hf, h, refuse]

theorem handleConflictAdd_added (ca : (s.chainOf a).length < Config.maxChain)
    (cb : (s.chainOf b).length < Config.maxChain) :
    handleConflictAdd m s = answer m .ok (freeData (addPair a b cond s)) (addPair a b cond s) := by
  simp [handleConflictAdd, hl, hc, ea, eb, ha, hb, hab, la, lb, hu, hn, Nat.not_lt.mpr hf, Nat.not_le.mpr ca,
    Nat.not_le.mpr cb]

end

theorem exec_conflictAdd {m : Mgmt} {s : State} (h : MgmtReady 0x05 m s) :
    exec (.conflictAdd m) s = .next (handleConflictAdd m (dropFront .d s)) :=
  congrArg _ (takeFrame_ready s h _)

theorem exec_conflictRemove {m : Mgmt} {s : State} (h : MgmtReady 0x06 m s) :
    exec (.conflictRemove m) s = .next (handleConflictRemove m (dropFront .d s)) :=
  congrArg _ (takeFrame_ready s h _)

/-- A changed pair as a put of both chains, and its report from ALWAYS to WIDE. -/
theorem changePair_eq {s : State} {a b : Nat} {ea eb : SectionEntry} (hab : a ≠ b) (ha : lookup s.sections a = some ea)
    (hb : lookup s.sections b = some eb) (old cond : ConflictCondition) :
    changePair a b old cond s =
      let v := putPair a b { ea with chain := withCondition b cond ea.chain }
        { eb with chain := withCondition a cond eb.chain } s.freeRecords s
      if old = .always ∧ cond = .wide then wake (.conflictLoosened a b) none v else v := by
  have put : changeConflict b a cond (changeConflict a b cond s) = _ := setChain_setChain_eq hab ha hb _ _
  unfold changePair
  rw [put]
  simp only [Bool.and_eq_true, decide_eq_true_eq]
  rfl

theorem changePair_freeRecords {s : State} {a b : Nat} {ea eb : SectionEntry} (hab : a ≠ b)
    (ha : lookup s.sections a = some ea) (hb : lookup s.sections b = some eb) (old cond : ConflictCondition) :
    (changePair a b old cond s).freeRecords = s.freeRecords := by
  rw [changePair_eq hab ha hb]
  dsimp only
  split
  · exact (wake_trafficOnly _ _ _).map.freeRecords
  · rfl

/-- Settles O16: each clause is the equation of its outcome, read on the state past the frame's taking. -/
theorem conflictAddLinksThePair : Obligations.ConflictAddLinksThePair := by
  refine ⟨fun m s hm hl hc => ?_, fun m s cond hm hl hcode => ?_⟩
  · rw [exec_conflictAdd hm, handleConflictAdd_badCode hl (conflictCondition_ofCode_none hc)]
  · have hc : ConflictCondition.ofCode (byteAt m.params 4) = some cond := by rw [hcode, ofCode_code]
    rw [exec_conflictAdd hm]
    intro a b u numbers lawful unrelated
    have number (hn : numbers) : sectionNumber a = true ∧ sectionNumber b = true :=
      ⟨sectionNumber_iff.mpr ⟨hn.1, hn.2.1⟩, sectionNumber_iff.mpr hn.2.2⟩
    refine ⟨fun h => ?_, fun hn hab h => ?_, fun ea eb hn hab la lb => ?_⟩
    · rw [handleConflictAdd_badNumbers hl hc rfl rfl (by simpa only [numbers, and_assoc] using h)]
    · rw [handleConflictAdd_notLoaded hl hc rfl rfl (number hn).1 (number hn).2 hab (by simpa using h)]
    · have la' : lookup u.sections a = some ea := by simpa [u] using la
      have lb' : lookup u.sections b = some eb := by simpa [u] using lb
      have chainA : u.chainOf a = ea.chain := chainOf_of_lookup la'
      have chainB : u.chainOf b = eb.chain := chainOf_of_lookup lb'
      have apart (h : lawful) : conflictInUse u a b cond = false := by
        rw [dropFront_conflictInUse]; exact conflictInUse_eq_false_iff.mpr h
      have unpaired (h : unrelated) : u.conflictBetween a b = none := by
        rw [dropFront_conflictBetween]; exact conflictBetween_eq_none_iff.mpr h
      have free : u.freeRecords = s.freeRecords := dropFront_freeRecords s .d
      -- the checks up to check 3 of R17, passed by two loaded sections
      have passed {P : Prop} (h : sectionNumber a = true → sectionNumber b = true → a ≠ b → u.loaded a = true →
          u.loaded b = true → P) : P :=
        h (number hn).1 (number hn).2 hab (loaded_of_lookup la') (loaded_of_lookup lb')
      refine ⟨fun h => ?_, fun h hu hf => ?_, fun h hu hf ho => ?_, fun f g rest h hu hf ca cb => ?_, fun r h hr => ?_⟩
      · have hu : conflictInUse u a b cond = true := by
          rw [dropFront_conflictInUse, ← Bool.not_eq_false, conflictInUse_eq_false_iff]; exact h
        rw [passed (handleConflictAdd_inUse hl hc rfl rfl · · · · · hu)]
      · rw [passed (handleConflictAdd_noRoom hl hc rfl rfl · · · · · (apart h) (unpaired hu) (free ▸ hf))]
      · have ho' : Config.maxChain ≤ (u.chainOf a).length ∨ Config.maxChain ≤ (u.chainOf b).length := by
          rw [chainA, chainB]; exact ho
        rw [passed (handleConflictAdd_tooLong hl hc rfl rfl · · · · · (apart h) (unpaired hu) (free ▸ hf) ho')]
      · have hf' : u.freeRecords = f :: g :: rest := free.trans hf
        rw [passed (handleConflictAdd_added hl hc rfl rfl · · · · · (apart h) (unpaired hu) (by simp [hf'])
          (chainA ▸ ca) (chainB ▸ cb)), addPair_eq hab la' lb' hf']
        rfl
      · have hr' : u.conflictBetween a b = some r := by rw [dropFront_conflictBetween]; exact hr
        rw [passed (handleConflictAdd_changed hl hc rfl rfl · · · · · (apart h) hr'), freeData,
          changePair_freeRecords hab la' lb', changePair_eq hab la' lb', free]
        rfl

/-! ### CONFLICT_REMOVE -/

section

variable {s : State} {m : Mgmt} {a b : Nat} (hl : m.params.length = 4)
  (ea : numAt2 m.params 0 = a) (eb : numAt2 m.params 2 = b)

include hl ea eb

theorem handleConflictRemove_badNumbers (h : ¬((1 ≤ a ∧ a ≤ 1023) ∧ (1 ≤ b ∧ b ≤ 1023) ∧ a ≠ b)) :
    handleConflictRemove m s = answer m .badValue [] s := by
  have : (!sectionNumber a || !sectionNumber b || decide (a = b)) = true := by
    by_contra hc
    simp only [Bool.or_eq_true, Bool.not_eq_true', decide_eq_true_eq, not_or, Bool.not_eq_false, sectionNumber_iff] at hc
    exact h ⟨hc.1.1, hc.1.2, hc.2⟩
  simp [handleConflictRemove, hl, ea, eb, this, refuse]

variable (ha : sectionNumber a = true) (hb : sectionNumber b = true) (hab : a ≠ b)

include ha hb hab

theorem handleConflictRemove_noSuch
    (h : lookup s.sections a = none ∨ lookup s.sections b = none ∨ s.conflictBetween a b = none) :
    handleConflictRemove m s = answer m .noSuch [] s := by
  by_cases hl' : (!s.loaded a || !s.loaded b) = true
  · simp [handleConflictRemove, hl, ea, eb, ha, hb, hab, hl', refuse]
  · obtain ⟨la, lb⟩ : s.loaded a = true ∧ s.loaded b = true := by simpa using hl'
    have hn : s.conflictBetween a b = none := by
      rcases h with h | h | h
      · exact absurd la (by simp [State.loaded, h])
      · exact absurd lb (by simp [State.loaded, h])
      · exact h
    simp [handleConflictRemove, hl, ea, eb, ha, hb, hab, la, lb, hn, refuse]

theorem handleConflictRemove_removed (la : s.loaded a = true) (lb : s.loaded b = true) {r : ConflictRecord}
    (hr : s.conflictBetween a b = some r) :
    let v := wake (.conflictLoosened a b) none (removePair a b s)
    handleConflictRemove m s = answer m .ok (freeData v) v := by
  simp [handleConflictRemove, hl, ea, eb, ha, hb, hab, la, lb, hr]

end

/-- Settles O17: the same for removal, whose pair of puts `removePair_eq` gives. -/
theorem conflictRemoveGivesRecordsBack : Obligations.ConflictRemoveGivesRecordsBack := by
  intro m s hm hl a b u numbers
  rw [exec_conflictRemove hm]
  have number (hn : numbers) : sectionNumber a = true ∧ sectionNumber b = true ∧ a ≠ b :=
    ⟨sectionNumber_iff.mpr ⟨hn.1, hn.2.1⟩, sectionNumber_iff.mpr ⟨hn.2.2.1, hn.2.2.2.1⟩, hn.2.2.2.2⟩
  refine ⟨fun h => ?_, fun hn h => ?_, fun ea eb ra rb hn la lb hra hrb => ?_⟩
  · rw [handleConflictRemove_badNumbers hl rfl rfl (by simpa only [numbers, and_assoc] using h)]
  · obtain ⟨na, nb, hab⟩ := number hn
    rw [handleConflictRemove_noSuch hl rfl rfl na nb hab (by simpa using h)]
  · obtain ⟨na, nb, hab⟩ := number hn
    have la' : lookup u.sections a = some ea := by simpa [u] using la
    have lb' : lookup u.sections b = some eb := by simpa [u] using lb
    have hra' : u.conflictBetween a b = some ra := by rw [dropFront_conflictBetween]; exact hra
    have hrb' : u.conflictBetween b a = some rb := by rw [dropFront_conflictBetween]; exact hrb
    have put := removePair_eq hab la' lb' hra' hrb'
    have free : (wake (.conflictLoosened a b) none (removePair a b u)).freeRecords =
        rb.record :: ra.record :: s.freeRecords := by
      rw [(wake_trafficOnly _ _ _).map.freeRecords, put]; exact congrArg _ (congrArg _ (dropFront_freeRecords s .d))
    rw [handleConflictRemove_removed hl rfl rfl na nb hab (loaded_of_lookup la') (loaded_of_lookup lb') hra', freeData,
      free, put]
    rfl

end Sys2Proof.Proofs
end

section
/-! SECTION_LOAD and ZONE_LOAD (R3 to R8): the checks of one record as an `↔` for each outcome, and the run of records
up to the first that fails. -/

namespace Sys2Proof.Proofs

open Sys2Proof Sys2Proof.Machine Sys2Proof.Laws

/-! ### A run of records -/

/-- A run of records from `start` ends at record `k` with a status: all before it pass, and it fails with that status or
is past the last. -/
structure StopsAt (check : Nat → Option Status) (start count k : Nat) (st : Status) : Prop where
  reached : start ≤ k
  within : k ≤ count
  passed : ∀ i, start ≤ i → i < k → check i = none
  failed : k < count → check k = some st
  done : k = count → st = .ok

theorem stopsAt_end (check : Nat → Option Status) (k : Nat) : StopsAt check k k k .ok :=
  ⟨le_rfl, le_rfl, fun _ h h' => absurd h (Nat.not_le.mpr h'), fun h => absurd h (lt_irrefl k), fun _ => rfl⟩

theorem stopsAt_failing {check : Nat → Option Status} {k count : Nat} {st : Status} (hk : k < count)
    (h : check k = some st) : StopsAt check k count k st :=
  ⟨le_rfl, hk.le, fun _ h h' => absurd h (Nat.not_le.mpr h'), fun _ => h, fun e => absurd e hk.ne⟩

/-- One more passing record in front of a run. -/
theorem StopsAt.cons {check : Nat → Option Status} {i count k : Nat} {st : Status} (h : StopsAt check (i + 1) count k st)
    (hi : check i = none) : StopsAt check i count k st where
  reached := (Nat.le_succ i).trans h.reached
  within := h.within
  passed j hj hk := by
    rcases hj.eq_or_lt with rfl | hj
    · exact hi
    · exact h.passed j hj hk
  failed := h.failed
  done := h.done

/-! ### The checks of a section record -/

theorem fieldsInRange_iff {d : SectionRecord} :
    d.fieldsInRange = true ↔ (1 ≤ d.fromNode ∧ d.fromNode ≤ 1023) ∧ (1 ≤ d.toNode ∧ d.toNode ≤ 1023) ∧
      d.fromNode ≠ d.toNode ∧ (100 ≤ d.length ∧ d.length ≤ 30000) ∧ (100 ≤ d.speedLimit ∧ d.speedLimit ≤ 4000) ∧
      d.zone ≤ 63 :=
  decide_eq_true_iff.trans (by simp only [Config.maxSection, Config.maxZone, and_assoc])

theorem capacityFits_iff {d : SectionRecord} :
    d.capacityFits = true ↔ (d.kind = .lane ∧ 1 ≤ d.capacity ∧ d.capacity ≤ 4) ∨ (d.kind = .cell ∧ d.capacity = 1) := by
  unfold SectionRecord.capacityFits
  cases d.kind with
  | lane => exact decide_eq_true_iff.trans (by simp)
  | cell => exact decide_eq_true_iff.trans (by simp)

section

variable {s : State} {n : Nat} {d : SectionRecord}

theorem checkSection_unread : checkSection s n none = some .badValue := by
  unfold checkSection
  split <;> rfl

theorem checkSection_badValue (h : ¬(sectionNumber n = true ∧ d.fieldsInRange = true ∧ d.capacityFits = true)) :
    checkSection s n (some d) = some .badValue := by
  unfold checkSection
  by_cases hn : sectionNumber n = true
  · by_cases hf : d.fieldsInRange = true
    · have hc : d.capacityFits = false := Bool.not_eq_true _ ▸ fun hc => h ⟨hn, hf, hc⟩
      simp [hn, hf, hc]
    · simp [hn, hf]
  · simp [hn]

variable (hn : sectionNumber n = true) (hf : d.fieldsInRange = true) (hc : d.capacityFits = true)

include hn hf hc

theorem checkSection_noSuch (hz : ¬(d.zone = 0 ∨ (lookup s.zones d.zone).isSome = true)) :
    checkSection s n (some d) = some .noSuch := by
  obtain ⟨h0, hl⟩ := not_or.mp hz
  simp [checkSection, hn, hf, hc, h0, Option.not_isSome_iff_eq_none.mp hl]

variable (hz : d.zone = 0 ∨ (lookup s.zones d.zone).isSome = true)

include hz

/-- Past checks 1 to 4 only a change of a referenced section is refused (R6). -/
theorem checkSection_of_inRange :
    checkSection s n (some d) =
      if s.referenced n = true ∧ (lookup s.sections n).map (fun e => e.data) ≠ some d then some .inUse else none := by
  have hz' : (decide (d.zone ≠ 0) && (lookup s.zones d.zone).isNone) = false := by
    rcases hz with h | h
    · simp [h]
    · simp [Option.isNone_eq_false_iff.mpr h]
  simp only [checkSection, hn, hf, hc, hz', Bool.not_true, Bool.false_eq_true, if_false, Bool.and_eq_true,
    decide_eq_true_eq]

end

/-! ### The state a record leaves -/

theorem loadSection_new {s : State} {n : Nat} (d : SectionRecord) (h : lookup s.sections n = none) :
    loadSection n d s = { s with sections := insertAt s.sections n ⟨d, true, []⟩ } := by
  simp [loadSection, h]

theorem loadSection_loaded {s : State} {n : Nat} {e : SectionEntry} (d : SectionRecord)
    (h : lookup s.sections n = some e) :
    loadSection n d s = { s with sections := insertAt s.sections n { e with data := d } } := by
  simp [loadSection, h]

/-- The section reads back with the record, and every other section as before. -/
theorem lookup_loadSection_other {s : State} {n j : Nat} (d : SectionRecord) (h : j ≠ n) :
    lookup (loadSection n d s).sections j = lookup s.sections j := by
  unfold loadSection
  split <;> simp [lookup_insertAt, h]

theorem lookup_loadSection_same (s : State) (n : Nat) (d : SectionRecord) :
    (lookup (loadSection n d s).sections n).map (fun e => e.data) = some d := by
  unfold loadSection
  split <;> simp [lookup_insertAt]

theorem loadSection_onlySections (s : State) (n : Nat) (d : SectionRecord) :
    loadSection n d s = { s with sections := (loadSection n d s).sections } := by
  unfold loadSection
  split <;> rfl

/-! ### SECTION_LOAD of any count -/

/-- The record of a SECTION_LOAD frame at an index. -/
def sectionRecord (bs : List Byte) (i : Nat) : Option SectionRecord := recordAt bs (3 + 12 * i)

/-- The state after the first records of a SECTION_LOAD have been applied, whatever their checks. -/
def afterSections (bs : List Byte) (first : Nat) (s : State) : Nat → State
  | 0 => s
  | i + 1 =>
    match sectionRecord bs i with
    | some d => loadSection (first + i) d (afterSections bs first s i)
    | none => afterSections bs first s i

section

variable {bs : List Byte} {first : Nat} {s : State}

theorem afterSections_succ {i : Nat} {d : SectionRecord} (h : sectionRecord bs i = some d) :
    afterSections bs first s (i + 1) = loadSection (first + i) d (afterSections bs first s i) := by
  simp [afterSections, h]

/-- The load from a record on, on the state the records before it have left. -/
theorem loadSections_stopsAt (n i : Nat) :
    ∃ k st, loadSections bs first n i (afterSections bs first s i) = (afterSections bs first s k, st, k) ∧
      StopsAt (fun j => checkSection (afterSections bs first s j) (first + j) (sectionRecord bs j)) i (i + n) k st := by
  induction n generalizing i with
  | zero => exact ⟨i, .ok, rfl, stopsAt_end _ i⟩
  | succ n ih =>
    unfold loadSections
    split
    · rename_i st hst
      exact ⟨i, st, rfl, stopsAt_failing (by omega) hst⟩
    · rename_i hc hr
      rw [hr, checkSection_unread] at hc
      cases hc
    · rename_i d hc hr
      obtain ⟨k, st, heq, hstop⟩ := ih (i + 1)
      rw [← afterSections_succ hr]
      exact ⟨k, st, heq, (Nat.succ_add_eq_add_succ i n ▸ hstop).cons hc⟩

theorem lookup_afterSections_outside {j : Nat} (k : Nat) (h : j < first ∨ first + k ≤ j) :
    lookup (afterSections bs first s k).sections j = lookup s.sections j := by
  induction k with
  | zero => rfl
  | succ k ih =>
    rw [afterSections]
    split
    · rw [lookup_loadSection_other _ (by omega), ih (by omega)]
    · exact ih (by omega)

theorem lookup_afterSections_applied {i k : Nat} {d : SectionRecord} (hi : i < k) (hd : sectionRecord bs i = some d) :
    (lookup (afterSections bs first s k).sections (first + i)).map (fun e => e.data) = some d := by
  induction k with
  | zero => exact absurd hi (Nat.not_lt_zero i)
  | succ k ih =>
    rcases (Nat.lt_succ_iff_lt_or_eq.mp hi) with hi | rfl
    · rw [afterSections]
      split
      · rw [lookup_loadSection_other _ (by omega)]; exact ih hi
      · exact ih hi
    · rw [afterSections_succ hd]; exact lookup_loadSection_same _ _ d

theorem afterSections_onlySections (k : Nat) :
    afterSections bs first s k = { s with sections := (afterSections bs first s k).sections } := by
  induction k with
  | zero => rfl
  | succ k ih =>
    rw [afterSections]
    split
    · rw [loadSection_onlySections, ih]
    · exact ih

end

theorem exec_sectionLoad {m : Mgmt} {s : State} (h : MgmtReady 0x01 m s) :
    exec (.sectionLoad m) s = .next (handleSectionLoad m (dropFront .d s)) :=
  congrArg _ (takeFrame_ready s h _)

/-- A SECTION_LOAD of matching length runs its records. -/
theorem handleSectionLoad_eq {m : Mgmt} (s : State) (h3 : 3 ≤ m.params.length)
    (hl : m.params.length = 3 + 12 * numAt m.params 2) (h19 : numAt m.params 2 ≤ 19) :
    handleSectionLoad m s =
      let r := loadSections m.params (numAt2 m.params 0) (numAt m.params 2) 0 s
      answer m r.2.1 [byte r.2.2] r.1 := by
  have hm : (decide (m.params.length < 3) || decide (m.params.length ≠ 3 + 12 * numAt m.params 2) ||
      decide (19 < numAt m.params 2)) = false := by
    simp only [Bool.or_eq_false_iff, decide_eq_false_iff_not]
    exact ⟨⟨Nat.not_lt.mpr h3, not_not.mpr hl⟩, Nat.not_lt.mpr h19⟩
  unfold handleSectionLoad
  exact if_neg (by rw [hm]; exact Bool.false_ne_true)

/-- Settles O11: the chain of states is `afterSections`, and `loadSections_stopsAt` says where it ends. -/
theorem sectionLoadAppliesRecordsInOrder : Obligations.SectionLoadAppliesRecordsInOrder := by
  intro m s hm h3 hl h19 first count record
  obtain ⟨k, st, hrun, hstop⟩ :=
    loadSections_stopsAt (bs := m.params) (first := first) (s := dropFront .d s) count 0
  rw [Nat.zero_add] at hstop
  refine ⟨afterSections m.params first (dropFront .d s), st, k, hstop.within, rfl, ?_, ?_, hstop.failed, hstop.done,
    fun i d hi hd => lookup_afterSections_applied hi hd, ?_, afterSections_onlySections k⟩
  · rw [exec_sectionLoad hm, handleSectionLoad_eq _ h3 hl h19]
    change Host.Outcome.next (answer m (loadSections m.params first count 0 (dropFront .d s)).2.1 _ _) = _
    rw [show loadSections m.params first count 0 (dropFront .d s) = _ from hrun]
  · intro i hi
    have passes := hstop.passed i (Nat.zero_le i) hi
    cases hd : sectionRecord m.params i with
    | none => rw [hd, checkSection_unread] at passes; cases passes
    | some d =>
      rw [hd] at passes
      refine ⟨d, hd, passes, fun hnew => ?_, fun e he => ?_⟩
      · rw [afterSections_succ hd, loadSection_new d hnew]
      · rw [afterSections_succ hd, loadSection_loaded d he]
  · intro j hj
    rw [lookup_afterSections_outside k hj, dropFront_sections]

/-! ### SECTION_LOAD of one record -/

/-- A SECTION_LOAD of one record is refused by its check, or applied. -/
theorem handleSectionLoad_one {m : Mgmt} (s : State) (hl : m.params.length = 15) (hn : numAt m.params 2 = 1) :
    (∀ st, checkSection s (numAt2 m.params 0) (recordAt m.params 3) = some st →
      handleSectionLoad m s = answer m st [0] s) ∧
    ∀ d, recordAt m.params 3 = some d → checkSection s (numAt2 m.params 0) (some d) = none →
      handleSectionLoad m s = answer m .ok [1] (loadSection (numAt2 m.params 0) d s) := by
  have h := handleSectionLoad_eq s (by omega) (by omega) (by omega : numAt m.params 2 ≤ 19)
  rw [hn] at h
  refine ⟨fun st hst => ?_, fun d hd hc => ?_⟩
  · rw [h]
    simp only [loadSections, Nat.add_zero, Nat.mul_zero, hst]
    rfl
  · rw [h]
    simp only [loadSections, Nat.add_zero, Nat.mul_zero, hd, hc]
    rfl

/-- A two-byte field reads back from its two bytes. -/
theorem halfBytes_append (h : Half) : (h.extractLsb' 8 8 ++ h.extractLsb' 0 8 : BitVec 16) = h := by
  ext i hi
  simp only [BitVec.getElem_append, BitVec.getElem_extractLsb']
  split
  · simp [BitVec.getLsbD_eq_getElem, hi]
  · rename_i h8
    rw [show 8 + (i - 8) = i by omega, BitVec.getLsbD_eq_getElem hi]

theorem toNat_bytes2 {n : Nat} (h : n < 65536) :
    ((BitVec.ofNat 16 n).extractLsb' 8 8 ++ (BitVec.ofNat 16 n).extractLsb' 0 8 : BitVec 16).toNat = n := by
  rw [halfBytes_append, BitVec.toNat_ofNat, Nat.mod_eq_of_lt h]

theorem sectionKind_ofCode_code (k : SectionKind) : SectionKind.ofCode k.code = some k := by cases k <;> rfl

theorem allowed_ofCode_code (a : Allowed) : Allowed.ofCode a.code = some a := by cases a <;> rfl

/-- What the parameters of a SECTION_LOAD of one record read as. -/
theorem oneRecord_read {n : Nat} {d : SectionRecord} (hn : n < 65536)
    (hf : d.fromNode < 65536 ∧ d.toNode < 65536 ∧ d.length < 65536 ∧ d.speedLimit < 65536)
    (hc : d.capacity < 256 ∧ d.zone < 256) :
    let bs : List Byte := bytes2 n ++ [1] ++ d.bytes
    bs.length = 15 ∧ numAt bs 2 = 1 ∧ numAt2 bs 0 = n ∧ recordAt bs 3 = some d := by
  obtain ⟨hfrom, hto, hlen, hspeed⟩ := hf
  have byteNat {k : Nat} (h : k < 256) : (byte k).toNat = k := by simp [byte, Nat.mod_eq_of_lt h]
  refine ⟨rfl, rfl, toNat_bytes2 hn, ?_⟩
  have kind : SectionKind.ofCode (byteAt (bytes2 n ++ [1] ++ d.bytes) 3) = some d.kind := sectionKind_ofCode_code d.kind
  have allowed : Allowed.ofCode (byteAt (bytes2 n ++ [1] ++ d.bytes) 13) = some d.allowed := allowed_ofCode_code d.allowed
  have fromNode : numAt2 (bytes2 n ++ [1] ++ d.bytes) 4 = d.fromNode := toNat_bytes2 hfrom
  have toNode : numAt2 (bytes2 n ++ [1] ++ d.bytes) 6 = d.toNode := toNat_bytes2 hto
  have length : numAt2 (bytes2 n ++ [1] ++ d.bytes) 8 = d.length := toNat_bytes2 hlen
  have speed : numAt2 (bytes2 n ++ [1] ++ d.bytes) 10 = d.speedLimit := toNat_bytes2 hspeed
  have capacity : numAt (bytes2 n ++ [1] ++ d.bytes) 12 = d.capacity := byteNat hc.1
  have zone : numAt (bytes2 n ++ [1] ++ d.bytes) 14 = d.zone := byteNat hc.2
  simp only [recordAt, kind, allowed, fromNode, toNode, length, speed, capacity, zone]

theorem recordAt_eq_none {bs : List Byte} {i : Nat}
    (h : byteAt bs i ∉ [(0x01 : Byte), 0x02] ∨ byteAt bs (i + 10) ∉ [(0x01 : Byte), 0x02, 0x03]) :
    recordAt bs i = none := by
  unfold recordAt
  rcases h with h | h
  · obtain ⟨h1, h2⟩ : byteAt bs i ≠ 1 ∧ byteAt bs i ≠ 2 := by simpa using h
    have : SectionKind.ofCode (byteAt bs i) = none := (if_neg h1).trans (if_neg h2)
    rw [this]
  · obtain ⟨h1, h2, h3⟩ : byteAt bs (i + 10) ≠ 1 ∧ byteAt bs (i + 10) ≠ 2 ∧ byteAt bs (i + 10) ≠ 3 := by simpa using h
    have : Allowed.ofCode (byteAt bs (i + 10)) = none := (if_neg h1).trans ((if_neg h2).trans (if_neg h3))
    rw [this]
    split
    · rename_i h; cases h
    · rfl

/-- Settles O10: the parameters read back as the record, whose check decides. -/
theorem sectionLoadChecksAndAppliesARecord : Obligations.SectionLoadChecksAndAppliesARecord := by
  refine ⟨fun m s n d hm hp hn hf hc => ?_, fun m s hm hl hn hcodes => ?_⟩
  · intro u number fields capacity zone refused
    obtain ⟨length, count, first, record⟩ := oneRecord_read hn hf hc
    simp only [← hp] at length count first record
    obtain ⟨refuses, applies⟩ := handleSectionLoad_one u length count
    rw [first, record] at refuses
    rw [first] at applies
    have ofCheck {st : Status} (h : checkSection u n (some d) = some st) : refused st := by
      exact (exec_sectionLoad hm).trans (congrArg _ (refuses st h))
    have ofPass (h : checkSection u n (some d) = none) :
        exec (.sectionLoad m) s = .next (answer m .ok [1] (loadSection n d u)) := by
      rw [exec_sectionLoad hm, applies d record h]
    have inRange (hn : number) (hf : fields) (hc : capacity) (hz : zone) :=
      checkSection_of_inRange (s := u) (sectionNumber_iff.mpr hn) (fieldsInRange_iff.mpr hf) (capacityFits_iff.mpr hc)
        hz
    refine ⟨fun h => ofCheck (checkSection_badValue fun ⟨a, b, c⟩ =>
        h ⟨sectionNumber_iff.mp a, fieldsInRange_iff.mp b, capacityFits_iff.mp c⟩),
      fun hn hf hc hz => ofCheck (checkSection_noSuch (sectionNumber_iff.mpr hn) (fieldsInRange_iff.mpr hf)
        (capacityFits_iff.mpr hc) hz),
      fun hn hf hc hz => ⟨fun hnew href => ?_, fun e he href => ?_, fun e he href hd => ?_⟩⟩
    · rw [ofPass, loadSection_new (s := u) d hnew]
      · rfl
      · rw [inRange hn hf hc hz, if_neg (by simp [u, href])]
    · rw [ofPass, loadSection_loaded (s := u) d he]
      · rfl
      · rw [inRange hn hf hc hz, if_neg]
        rcases href with href | href
        · simp [u, href]
        · simp [u, he, href]
    · refine ofCheck ?_
      rw [inRange hn hf hc hz, if_pos]
      simpa [u, href, he] using hd
  · rw [exec_sectionLoad hm]
    refine congrArg _ ((handleSectionLoad_one _ hl hn).1 _ ?_)
    rw [recordAt_eq_none hcodes, checkSection_unread]

/-! ### The checks of a zone record, and the state it leaves -/

section

variable {s : State} {z c : Nat}

theorem checkZone_badValue (h : ¬(1 ≤ z ∧ z ≤ 63 ∧ 1 ≤ c ∧ c ≤ 64)) : checkZone s z c = some .badValue := by
  unfold checkZone
  by_cases hz : zoneNumber z = true
  · obtain ⟨h1, h2⟩ := zoneNumber_iff.mp hz
    have hc : decide (1 ≤ c ∧ c ≤ 64) = false := decide_eq_false fun hc => h ⟨h1, h2, hc⟩
    simp [hz, hc]
  · simp [hz]

theorem checkZone_of_inRange (h : 1 ≤ z ∧ z ≤ 63 ∧ 1 ≤ c ∧ c ≤ 64) :
    checkZone s z c = if c < s.occupied z then some .inUse else none := by
  have hz : zoneNumber z = true := zoneNumber_iff.mpr ⟨h.1, h.2.1⟩
  have hc : decide (1 ≤ c ∧ c ≤ 64) = true := decide_eq_true h.2.2
  simp [checkZone, hz, hc]

theorem checkZone_eq_none_iff :
    checkZone s z c = none ↔ (1 ≤ z ∧ z ≤ 63 ∧ 1 ≤ c ∧ c ≤ 64) ∧ s.occupied z ≤ c := by
  by_cases h : 1 ≤ z ∧ z ≤ 63 ∧ 1 ≤ c ∧ c ≤ 64
  · rw [checkZone_of_inRange h]
    simp [h]
  · simp [checkZone_badValue h, h]

theorem checkZone_eq_some {st : Status} (h : checkZone s z c = some st) :
    (¬(1 ≤ z ∧ z ≤ 63 ∧ 1 ≤ c ∧ c ≤ 64) ∧ st = .badValue) ∨
      ((1 ≤ z ∧ z ≤ 63 ∧ 1 ≤ c ∧ c ≤ 64) ∧ c < s.occupied z ∧ st = .inUse) := by
  by_cases hr : 1 ≤ z ∧ z ≤ 63 ∧ 1 ≤ c ∧ c ≤ 64
  · rw [checkZone_of_inRange hr] at h
    split at h
    · rename_i hc
      cases h
      exact .inr ⟨hr, hc, rfl⟩
    · cases h
  · rw [checkZone_badValue hr] at h
    cases h
    exact .inl ⟨hr, rfl⟩

theorem loadZone_new (h : lookup s.zones z = none) : loadZone z c s = { s with zones := insertAt s.zones z ⟨c, true⟩ } := by
  simp [loadZone, h]

theorem loadZone_loaded {e : ZoneEntry} (h : lookup s.zones z = some e) :
    loadZone z c s =
      let stored := { s with zones := insertAt s.zones z ⟨c, e.isOpen⟩ }
      if e.capacity < c then wake (.zoneRoom z) none stored else stored := by
  simp only [loadZone, h]

end

/-! ### ZONE_LOAD of any count -/

/-- The state after the first records of a ZONE_LOAD have been applied, whatever their checks. -/
def afterZones (bs : List Byte) (first : Nat) (s : State) : Nat → State
  | 0 => s
  | i + 1 => loadZone (first + i) (numAt bs (2 + i)) (afterZones bs first s i)

/-- The load from a record on, on the state the records before it have left. -/
theorem loadZones_stopsAt {bs : List Byte} {first : Nat} {s : State} (n i : Nat) :
    ∃ k st, loadZones bs first n i (afterZones bs first s i) = (afterZones bs first s k, st, k) ∧
      StopsAt (fun j => checkZone (afterZones bs first s j) (first + j) (numAt bs (2 + j))) i (i + n) k st := by
  induction n generalizing i with
  | zero => exact ⟨i, .ok, rfl, stopsAt_end _ i⟩
  | succ n ih =>
    unfold loadZones
    split
    · rename_i st hst
      exact ⟨i, st, rfl, stopsAt_failing (by omega) hst⟩
    · rename_i hc
      obtain ⟨k, st, heq, hstop⟩ := ih (i + 1)
      exact ⟨k, st, heq, (Nat.succ_add_eq_add_succ i n ▸ hstop).cons hc⟩

theorem exec_zoneLoad {m : Mgmt} {s : State} (h : MgmtReady 0x02 m s) :
    exec (.zoneLoad m) s = .next (handleZoneLoad m (dropFront .d s)) :=
  congrArg _ (takeFrame_ready s h _)

/-- A ZONE_LOAD of matching length runs its records. -/
theorem handleZoneLoad_eq {m : Mgmt} (s : State) (h2 : 2 ≤ m.params.length)
    (hl : m.params.length = 2 + numAt m.params 1) :
    handleZoneLoad m s =
      let r := loadZones m.params (numAt m.params 0) (numAt m.params 1) 0 s
      answer m r.2.1 [byte r.2.2] r.1 := by
  have hm : (decide (m.params.length < 2) || decide (m.params.length ≠ 2 + numAt m.params 1)) = false := by
    simp only [Bool.or_eq_false_iff, decide_eq_false_iff_not]
    exact ⟨Nat.not_lt.mpr h2, not_not.mpr hl⟩
  unfold handleZoneLoad
  exact if_neg (by rw [hm]; exact Bool.false_ne_true)

/-- A ZONE_LOAD of one record is refused by its check, or applied. -/
theorem handleZoneLoad_one {m : Mgmt} (s : State) (hl : m.params.length = 3) (hn : numAt m.params 1 = 1) :
    (∀ st, checkZone s (numAt m.params 0) (numAt m.params 2) = some st → handleZoneLoad m s = answer m st [0] s) ∧
    (checkZone s (numAt m.params 0) (numAt m.params 2) = none →
      handleZoneLoad m s = answer m .ok [1] (loadZone (numAt m.params 0) (numAt m.params 2) s)) := by
  have h := handleZoneLoad_eq s (by omega) (by omega : m.params.length = 2 + numAt m.params 1)
  rw [hn] at h
  refine ⟨fun st hst => ?_, fun hc => ?_⟩
  · rw [h]
    simp only [loadZones, Nat.add_zero, hst]
    rfl
  · rw [h]
    simp only [loadZones, Nat.add_zero, hc]
    rfl

theorem zoneLoad_ofOneRecord {m : Mgmt} {s : State} (hm : MgmtReady 0x02 m s) (hl : m.params.length = 3)
    (hn : numAt m.params 1 = 1) :
    let z := numAt m.params 0
    let c := numAt m.params 2
    let u := dropFront .d s
    (∀ st, checkZone s z c = some st → exec (.zoneLoad m) s = .next (answer m st [0] u)) ∧
      (checkZone s z c = none → exec (.zoneLoad m) s = .next (answer m .ok [1] (loadZone z c u))) := by
  obtain ⟨refuses, applies⟩ := handleZoneLoad_one (dropFront .d s) hl hn
  exact ⟨fun st h => (exec_zoneLoad hm).trans (congrArg _ (refuses st h)),
    fun h => (exec_zoneLoad hm).trans (congrArg _ (applies h))⟩

/-- Settles O12: one record by its check, and the run of any count along `afterZones`. -/
theorem zoneLoadAppliesRecordsInOrder : Obligations.ZoneLoadAppliesRecordsInOrder := by
  refine ⟨fun m s hm hl hn => ?_, fun m s hm h2 hl => ?_⟩
  · intro z c u stored
    obtain ⟨refuses, applies⟩ := zoneLoad_ofOneRecord hm hl hn
    have passes (h1 : 1 ≤ z) (h2 : z ≤ 63) (h3 : 1 ≤ c) (h4 : c ≤ 64) (h5 : s.occupied z ≤ c) :
        exec (.zoneLoad m) s = .next (answer m .ok [1] (loadZone z c u)) :=
      applies (checkZone_eq_none_iff.mpr ⟨⟨h1, h2, h3, h4⟩, h5⟩)
    refine ⟨fun h => refuses _ (checkZone_badValue (by omega)),
      fun h1 h2 h => refuses _ (checkZone_badValue (by omega)),
      fun h1 h2 h3 h4 h => refuses _ ?_, fun h1 h2 h3 h4 h5 hnew => ?_, fun e h1 h2 h3 h4 h5 he hc => ?_,
      fun e h1 h2 h3 h4 h5 he hc => ?_⟩
    · rw [checkZone_of_inRange ⟨h1, h2, h3, h4⟩, if_pos h]
    · rw [passes h1 h2 h3 h4 h5, loadZone_new (s := u) hnew]
      rfl
    · rw [passes h1 h2 h3 h4 h5, loadZone_loaded (s := u) he]
      simp only [if_neg (Nat.not_lt.mpr hc)]
      rfl
    · rw [passes h1 h2 h3 h4 h5, loadZone_loaded (s := u) he]
      simp only [if_pos hc]
      rfl
  · intro first count capacity
    obtain ⟨k, st, hrun, hstop⟩ := loadZones_stopsAt (bs := m.params) (first := first) (s := dropFront .d s) count 0
    rw [Nat.zero_add] at hstop
    refine ⟨afterZones m.params first (dropFront .d s), st, k, hstop.within, rfl, ?_, fun i hi => ?_,
      fun hk => checkZone_eq_some (hstop.failed hk), hstop.done⟩
    · rw [exec_zoneLoad hm, handleZoneLoad_eq _ h2 hl]
      change Host.Outcome.next (answer m (loadZones m.params first count 0 (dropFront .d s)).2.1 _ _) = _
      rw [show loadZones m.params first count 0 (dropFront .d s) = _ from hrun]
    · obtain ⟨⟨h1, h2, h3, h4⟩, h5⟩ := checkZone_eq_none_iff.mp (hstop.passed i (Nat.zero_le i) hi)
      exact ⟨⟨h1, h2, h3, h4, h5⟩, fun hnew => loadZone_new hnew, fun e he => loadZone_loaded he⟩

end Sys2Proof.Proofs
end

section
/-! Section and zone commands by their outcomes (R9 to R12), and the openings. -/

namespace Sys2Proof.Proofs

open Sys2Proof Sys2Proof.Machine Sys2Proof.Laws

/-! ### A section or zone command is refused, or applied to the entry of its number -/

section

variable {m : Mgmt} {s : State}

theorem onSection_badNumber (apply : Nat → SectionEntry → State → State) (hl : m.params.length = 2)
    (h : numAt2 m.params 0 = 0 ∨ 1023 < numAt2 m.params 0) : onSection m apply s = answer m .badValue [] s := by
  have hn : ¬sectionNumber (numAt2 m.params 0) = true := fun hn => by
    have := sectionNumber_iff.mp hn
    omega
  simp [onSection, hl, hn, refuse]

theorem onSection_notLoaded (apply : Nat → SectionEntry → State → State) (hl : m.params.length = 2)
    (h1 : 1 ≤ numAt2 m.params 0) (h2 : numAt2 m.params 0 ≤ 1023) (h : lookup s.sections (numAt2 m.params 0) = none) :
    onSection m apply s = answer m .noSuch [] s := by
  simp [onSection, hl, sectionNumber_iff.mpr ⟨h1, h2⟩, h, refuse]

theorem onSection_loaded (apply : Nat → SectionEntry → State → State) {e : SectionEntry} (hl : m.params.length = 2)
    (h1 : 1 ≤ numAt2 m.params 0) (h2 : numAt2 m.params 0 ≤ 1023) (h : lookup s.sections (numAt2 m.params 0) = some e) :
    onSection m apply s = answer m .ok [] (apply (numAt2 m.params 0) e s) := by
  simp [onSection, hl, sectionNumber_iff.mpr ⟨h1, h2⟩, h]

theorem onZone_badNumber (apply : Nat → ZoneEntry → State → State) (hl : m.params.length = 1)
    (h : numAt m.params 0 = 0 ∨ 63 < numAt m.params 0) : onZone m apply s = answer m .badValue [] s := by
  have hn : ¬zoneNumber (numAt m.params 0) = true := fun hn => by
    have := zoneNumber_iff.mp hn
    omega
  simp [onZone, hl, hn, refuse]

theorem onZone_notLoaded (apply : Nat → ZoneEntry → State → State) (hl : m.params.length = 1)
    (h1 : 1 ≤ numAt m.params 0) (h2 : numAt m.params 0 ≤ 63) (h : lookup s.zones (numAt m.params 0) = none) :
    onZone m apply s = answer m .noSuch [] s := by
  simp [onZone, hl, zoneNumber_iff.mpr ⟨h1, h2⟩, h, refuse]

theorem onZone_loaded (apply : Nat → ZoneEntry → State → State) {e : ZoneEntry} (hl : m.params.length = 1)
    (h1 : 1 ≤ numAt m.params 0) (h2 : numAt m.params 0 ≤ 63) (h : lookup s.zones (numAt m.params 0) = some e) :
    onZone m apply s = answer m .ok [] (apply (numAt m.params 0) e s) := by
  simp [onZone, hl, zoneNumber_iff.mpr ⟨h1, h2⟩, h]

theorem setSectionOpen_eq {n : Nat} {e : SectionEntry} (o : Bool) (h : lookup s.sections n = some e) :
    setSectionOpen n o s = { s with sections := insertAt s.sections n { e with isOpen := o } } := by
  simp [setSectionOpen, h]

theorem setZoneOpen_eq {z : Nat} {e : ZoneEntry} (o : Bool) (h : lookup s.zones z = some e) :
    setZoneOpen z o s = { s with zones := insertAt s.zones z { e with isOpen := o } } := by
  simp [setZoneOpen, h]

end

/-! ### Openings -/

section

variable {m : Mgmt} {s : State}

theorem exec_sectionOpen (h : MgmtReady 0x03 m s) :
    exec (.sectionOpen m) s = .next (handleSectionOpen m (dropFront .d s)) :=
  congrArg _ (takeFrame_ready s h _)

theorem exec_zoneOpen (h : MgmtReady 0x07 m s) : exec (.zoneOpen m) s = .next (handleZoneOpen m (dropFront .d s)) :=
  congrArg _ (takeFrame_ready s h _)

theorem exec_sectionClose (h : MgmtReady 0x04 m s) :
    exec (.sectionClose m) s = .next (handleSectionClose m (dropFront .d s)) :=
  congrArg _ (takeFrame_ready s h _)

theorem exec_zoneClose (h : MgmtReady 0x08 m s) : exec (.zoneClose m) s = .next (handleZoneClose m (dropFront .d s)) :=
  congrArg _ (takeFrame_ready s h _)

end

/-- Outside the carrier's own trail a section of a closed zone stops the attempt as closed (R12, R76). -/
theorem attempt_closed {t : State} {slot : Nat} {r : RouteEntry} (ht : (t.carrier slot).inTrail r.sec = false)
    (hz : t.zoneIsOpen r.sec = false) : attempt t slot r = some .closed := by
  simp [attempt, ht, State.closed, hz]

/-- Settles O13: each clause is the outcome of `onSection` or `onZone` on the state past the frame's taking. -/
theorem openingsReportToArbiter : Obligations.OpeningsReportToArbiter := by
  refine ⟨fun m s hm hl => ?_, fun m s hm hl => ?_⟩
  · intro n u
    rw [exec_sectionOpen hm]
    refine ⟨fun h => ?_, fun h1 h2 h => ?_, fun e h1 h2 h ho => ?_, fun e h1 h2 h ho => ?_,
      fun t slot r => attempt_closed⟩
    · rw [handleSectionOpen, onSection_badNumber _ hl h]
    · rw [handleSectionOpen, onSection_notLoaded (s := dropFront .d s) _ hl h1 h2 h]
    · rw [handleSectionOpen, onSection_loaded (s := dropFront .d s) _ hl h1 h2 h, if_pos ho]
    · rw [handleSectionOpen, onSection_loaded (s := dropFront .d s) _ hl h1 h2 h, if_neg (Bool.eq_false_iff.mp ho),
        setSectionOpen_eq (s := dropFront .d s) true h]
      rfl
  · intro z u
    rw [exec_zoneOpen hm]
    refine ⟨fun h => ?_, fun h1 h2 h => ?_, fun e h1 h2 h ho => ?_, fun e h1 h2 h ho => ?_⟩
    · rw [handleZoneOpen, onZone_badNumber _ hl h]
    · rw [handleZoneOpen, onZone_notLoaded (s := dropFront .d s) _ hl h1 h2 h]
    · rw [handleZoneOpen, onZone_loaded (s := dropFront .d s) _ hl h1 h2 h, if_pos ho]
    · refine ⟨_, ?_, rfl, ?_, ?_⟩
      · rw [handleZoneOpen, onZone_loaded (s := dropFront .d s) _ hl h1 h2 h, if_neg (Bool.eq_false_iff.mp ho),
          setZoneOpen_eq (s := dropFront .d s) true h]
        rfl
      · rw [(wake_trafficOnly _ _ _).map.zones]
        simp [lookup_insertAt]
      · exact (wake_trafficOnly _ _ _).map.sections

end Sys2Proof.Proofs
end

section
/-! What a trigger of the Cutback Unit does (R120 to R122): nothing, or the cutback that `CutbackSent` describes. -/

namespace Sys2Proof.Proofs

open Sys2Proof Sys2Proof.Machine Sys2Proof.Laws

/-! ### What the stopping arithmetic reads -/

/-- Two states and contexts between which the stopping arithmetic sees no difference (R84 to R90). -/
structure SameSpan (s t : State) (c d : Carrier) : Prop where
  lengthOf : ∀ n, t.lengthOf n = s.lengthOf n
  speedLimitOf : ∀ n, t.speedLimitOf n = s.speedLimitOf n
  margin : t.params.margin = s.params.margin
  params : d.params = c.params
  route : d.route = c.route
  head : d.head = c.head
  limit : d.limit = c.limit
  headSection : d.headSection = c.headSection
  remaining : d.remaining = c.remaining
  requestedSpeed : d.requestedSpeed = c.requestedSpeed

section

variable {s t : State} {c d : Carrier} (h : SameSpan s t c d)

include h

theorem available_congr (l : Nat) : available t d l = available s c l := by
  simp only [available, h.route, h.head, h.remaining, h.lengthOf]

theorem need_congr (v : Nat) : need t d v = need s c v := by
  simp only [need, h.params, h.margin]

theorem speedSearch_congr (g k : Nat) : speedSearch t d g k = speedSearch s c g k := by
  induction k with
  | zero => rfl
  | succ k ih => simp only [speedSearch, need_congr h, ih]

theorem permittedSpeed_congr : permittedSpeed t d = permittedSpeed s c := by
  have second : secondClamp t d = secondClamp s c := by
    simp only [secondClamp, firstClamp, Carrier.ahead, h.route, h.head, h.limit, h.speedLimitOf, h.headSection,
      h.requestedSpeed, h.params]
  simp only [permittedSpeed, second, need_congr h, available_congr h, speedSearch_congr h, h.margin, h.limit]

end

/-! ### Frames offered to Port C -/

/-- Frames have joined the outbound queue of Port C behind those that stood, and none has left. -/
def Grows (s t : State) : Prop := ∃ l, t.portC.outbound = s.portC.outbound ++ l

/-- A frame is among those that joined the outbound queue of Port C, unless the queue is full. -/
def Offered (f : Frame) (s t : State) : Prop := t.portC.outbound.length < 16 → f ∈ appended .c s t

section

variable {f : Frame} {s t u : State}

theorem grows_of_eq (h : t.portC = s.portC) : Grows s t := ⟨[], by rw [h, List.append_nil]⟩

theorem Grows.refl (s : State) : Grows s s := grows_of_eq rfl

theorem Grows.trans (h : Grows s t) (k : Grows t u) : Grows s u := by
  obtain ⟨l, hl⟩ := h
  obtain ⟨l', hl'⟩ := k
  exact ⟨l ++ l', by rw [hl', hl, List.append_assoc]⟩

theorem Grows.length_le (h : Grows s t) : s.portC.outbound.length ≤ t.portC.outbound.length := by
  obtain ⟨l, hl⟩ := h
  rw [hl, List.length_append]
  exact Nat.le_add_right _ _

theorem Grows.foldl {α : Type} {g : State → α → State} (h : ∀ s a, Grows s (g s a)) (l : List α) (s : State) :
    Grows s (l.foldl g s) := by
  induction l generalizing s with
  | nil => exact Grows.refl s
  | cons a l ih => exact (h s a).trans (ih _)

/-- What was offered stays in the queue. -/
theorem Offered.grow (h : Offered f s t) (hs : Grows s t) (k : Grows t u) : Offered f s u := by
  intro hu
  have hm : f ∈ t.portC.outbound.drop s.portC.outbound.length := h (k.length_le.trans_lt hu)
  obtain ⟨l, hl⟩ := k
  change f ∈ u.portC.outbound.drop s.portC.outbound.length
  rw [hl, List.drop_append_of_le_length hs.length_le]
  exact List.mem_append_left _ hm

/-- What is offered later has been offered since before. -/
theorem Offered.since (hs : Grows s t) (h : Offered f t u) : Offered f s u := fun hu =>
  List.drop_subset_drop_left _ hs.length_le (h hu)

/-- The same offer by a state with the same Port C. -/
theorem Offered.ofPort (h : Offered f s t) (hs : s.portC = u.portC) : Offered f u t := by
  unfold Offered appended at *
  change t.portC.outbound.length < 16 → f ∈ t.portC.outbound.drop u.portC.outbound.length
  rw [← hs]
  exact h

theorem portC_offerOwn (f : Frame) (s : State) :
    (offerOwn .c f s).portC =
      if s.portC.outbound.length < 16 then { s.portC with outbound := s.portC.outbound ++ [f] }
      else { s.portC with flags := s.portC.flags.raise .outOverrun } := by
  by_cases h : s.portC.outbound.length < 16
  · rw [offerOwn_admitted s (p := .c) f h, if_pos h]
    rfl
  · rw [offerOwn_dropped s (p := .c) f (Nat.not_lt.mp h), if_neg h]
    rfl

theorem offerOwn_grows (f : Frame) (s : State) : Grows s (offerOwn .c f s) := by
  unfold Grows
  rw [portC_offerOwn]
  split
  · exact ⟨[f], rfl⟩
  · exact ⟨[], (List.append_nil _).symm⟩

theorem offerOwn_offered (f : Frame) (s : State) : Offered f s (offerOwn .c f s) := by
  unfold Offered appended
  change (offerOwn .c f s).portC.outbound.length < 16 →
    f ∈ (offerOwn .c f s).portC.outbound.drop s.portC.outbound.length
  rw [portC_offerOwn]
  split
  · intro _; simp
  · rename_i h; exact fun h' => absurd h' h

end

/-! ### Holds that become RECALLING -/

section

variable (s : State) (slot sec n k : Nat) (st : HoldState)

theorem holders_slots_setHoldState :
    ((setHoldState slot sec st s).holders k).map (fun h => h.slot) = (s.holders k).map (fun h => h.slot) := by
  rw [holders_setHoldState]
  split
  · rename_i hk
    rw [hk, List.map_map]
    exact List.map_congr_left (fun h _ => by simp only [Function.comp]; split <;> rfl)
  · rfl

theorem holdsSection_eq_of_slots {t : State} (h : (t.holders k).map (fun h => h.slot) = (s.holders k).map (fun h => h.slot)) :
    t.holdsSection n k = s.holdsSection n k := by
  have any : ∀ u : State, u.holdsSection n k = ((u.holders k).map (fun h => h.slot)).any (fun x => x = n) := fun u => by
    simp only [State.holdsSection, List.any_map, Function.comp_def]
  rw [any, any, h]

/-- A hold found under its slot in a list whose entries of one slot change state. -/
theorem find_map_state (l : List Holder) :
    ((l.map (fun h => if h.slot = slot then { h with state := st } else h)).find? (fun h => h.slot = n)).map
        (fun h => h.state) =
      if n = slot ∧ l.any (fun h => h.slot = slot) = true then some st
      else (l.find? (fun h => h.slot = n)).map (fun h => h.state) := by
  induction l with
  | nil => simp
  | cons a l ih =>
    by_cases ha : a.slot = slot
    · by_cases hn : n = slot
      · subst hn; simp [ha]
      · have han : ¬a.slot = n := fun e => hn (e.symm.trans ha)
        have hsn : ¬slot = n := fun e => hn e.symm
        simpa [ha, han, hn, hsn] using ih
    · by_cases han : a.slot = n
      · have hn : n ≠ slot := fun e => ha (han.trans e)
        simp [han, hn]
      · simpa [ha, han] using ih

theorem holdStateOf_setHoldState :
    (setHoldState slot sec st s).holdStateOf n k =
      if n = slot ∧ k = sec ∧ s.holdsSection slot sec = true then some st else s.holdStateOf n k := by
  unfold State.holdStateOf
  rw [holders_setHoldState]
  by_cases hk : k = sec
  · subst hk
    rw [if_pos rfl, find_map_state]
    simp only [true_and]
    rfl
  · rw [if_neg hk, if_neg (fun h => hk h.2.1)]

theorem holders_slots_recallHolds (l : List Nat) :
    ((recallHolds slot l s).holders k).map (fun h => h.slot) = (s.holders k).map (fun h => h.slot) := by
  induction l generalizing s with
  | nil => rfl
  | cons a l ih => exact (ih _).trans (holders_slots_setHoldState s slot a k _)

theorem holdStateOf_recallHolds (l : List Nat) :
    (recallHolds slot l s).holdStateOf n k =
      if n = slot ∧ k ∈ l ∧ s.holdsSection slot k = true then some .recalling else s.holdStateOf n k := by
  induction l generalizing s with
  | nil => simp [recallHolds]
  | cons a l ih =>
    have held : (setHoldState slot a .recalling s).holdsSection slot k = s.holdsSection slot k :=
      holdsSection_eq_of_slots s slot k (holders_slots_setHoldState s slot a k _)
    change (recallHolds slot l (setHoldState slot a .recalling s)).holdStateOf n k = _
    rw [ih, held, holdStateOf_setHoldState]
    by_cases hk : k = a
    · subst hk
      by_cases hc : n = slot ∧ s.holdsSection slot k = true
      · simp [hc.1, hc.2]
      · rw [if_neg (fun h => hc ⟨h.1, h.2.2⟩), if_neg (fun h => hc ⟨h.1, h.2.2⟩), if_neg (fun h => hc ⟨h.1, h.2.2⟩)]
    · simp [hk]

end

/-- What the recalling of holds leaves as it was. -/
structure RecallKeeps (s t : State) : Prop where
  carriers : t.carriers = s.carriers
  waits : t.waits = s.waits
  occupancy : t.occupancy = s.occupancy
  portC : t.portC = s.portC
  portD : t.portD = s.portD

theorem recallHolds_keeps (slot : Nat) (l : List Nat) (s : State) : RecallKeeps s (recallHolds slot l s) := by
  induction l generalizing s with
  | nil => exact ⟨rfl, rfl, rfl, rfl, rfl⟩
  | cons a l ih =>
    obtain ⟨carriers, waits, occupancy, portC, portD⟩ := ih (setHoldState slot a .recalling s)
    constructor
    · exact carriers.trans (by simp [setHoldState])
    · exact waits.trans (by simp [setHoldState])
    · exact occupancy.trans (by simp [setHoldState])
    · exact portC.trans (by simp [setHoldState])
    · exact portD.trans (by simp [setHoldState])

/-! ### The trigger -/

theorem admitted_eq_of_carriers {s t : State} (h : t.carriers = s.carriers) (n : Nat) : t.admitted n = s.admitted n := by
  simp only [State.admitted, h]

theorem carrier_eq_of_carriers {s t : State} (h : t.carriers = s.carriers) (n : Nat) : t.carrier n = s.carrier n := by
  simp only [State.carrier, h]

/-- An unadmitted slot reads as VACANT. -/
theorem carrier_of_not_admitted {s : State} {n : Nat} (h : s.admitted n = false) : s.carrier n = .vacant := by
  unfold State.admitted at h
  unfold State.carrier
  rw [Option.isSome_eq_false_iff, Option.isNone_iff_eq_none] at h
  rw [h]
  rfl

theorem admitted_of_active {s : State} {n : Nat} (h : (s.carrier n).state = .active) : s.admitted n = true := by
  cases ha : s.admitted n with
  | true => rfl
  | false => rw [carrier_of_not_admitted ha] at h; cases h

theorem holdStateOf_of_holds {s t : State} (h : t.holds = s.holds) (n sec : Nat) :
    t.holdStateOf n sec = s.holdStateOf n sec := by
  simp only [State.holdStateOf, State.holders, State.hold, h]

theorem holders_of_holds {s t : State} (h : t.holds = s.holds) (sec : Nat) : t.holders sec = s.holders sec := by
  simp only [State.holders, State.hold, h]

theorem sendAnswer_holds (n : Nat) (f : Frame) (s : State) : (sendAnswer n f s).holds = s.holds := by simp [sendAnswer]
theorem sendAnswer_waits (n : Nat) (f : Frame) (s : State) : (sendAnswer n f s).waits = s.waits := by simp [sendAnswer]
theorem sendAnswer_occupancy (n : Nat) (f : Frame) (s : State) : (sendAnswer n f s).occupancy = s.occupancy := by
  simp [sendAnswer]

theorem offerOwn_portD (f : Frame) (s : State) : (offerOwn .c f s).portD = s.portD :=
  offerOwn_otherPort s (p := .c) (q := .d) f (by decide)

theorem sendAnswer_portD (n : Nat) (f : Frame) (s : State) : (sendAnswer n f s).portD = s.portD := by
  unfold sendAnswer
  rw [offerOwn_portD, modifyCarrier_portD]

theorem sendAnswer_portC (n : Nat) (f : Frame) (s : State) : (sendAnswer n f s).portC = (offerOwn .c f s).portC := by
  unfold sendAnswer
  rw [portC_offerOwn, portC_offerOwn, modifyCarrier_portC]

theorem sendAnswer_carrier (n k : Nat) (f : Frame) (s : State) :
    (sendAnswer n f s).carrier k =
      if k = n ∧ s.admitted n = true then { s.carrier n with lastAnswer := some f } else s.carrier k := by
  unfold sendAnswer
  rw [carrier_eq_of_carriers (offerOwn_carriers _ .c f), carrier_modifyCarrier]

/-- The context of a carrier that is asked back to a target (R120 to R122). -/
def askedContext (s : State) (slot target : Nat) : Carrier :=
  { s.carrier slot with
    cutbackNumber := (s.carrier slot).cutbackNumber + 1
    cutback := some ⟨(s.carrier slot).cutbackNumber + 1, target, s.params.cutbackTimeout,
      cutbackOf s slot ((s.carrier slot).cutbackNumber + 1) target⟩
    lastAnswer := some (cutbackOf s slot ((s.carrier slot).cutbackNumber + 1) target) }

/-- The effect of `setCutback` for an admitted slot, the hold-idle counter as it stands. -/
theorem setCutback_carrier {s : State} {slot : Nat} (ha : s.admitted slot = true) (target upto n : Nat) :
    (setCutback slot target upto s).carrier n = if n = slot then askedContext s slot target else s.carrier n := by
  have keeps := recallHolds_keeps slot ((s.carrier slot).sectionsBetween target upto) s
  have ha' : (recallHolds slot ((s.carrier slot).sectionsBetween target upto) s).admitted slot = true :=
    (admitted_eq_of_carriers keeps.carriers slot).trans ha
  unfold setCutback
  dsimp only
  rw [sendAnswer_carrier, admitted_modifyCarrier, carrier_modifyCarrier, carrier_modifyCarrier,
    carrier_eq_of_carriers keeps.carriers, carrier_eq_of_carriers keeps.carriers]
  by_cases hn : n = slot
  · subst hn
    simp only [ha', and_self, if_true]
    rfl
  · simp only [hn, false_and, if_false]

theorem setCutback_holdStateOf (s : State) (slot target upto n sec : Nat) :
    (setCutback slot target upto s).holdStateOf n sec =
      if n = slot ∧ sec ∈ (s.carrier slot).sectionsBetween target upto ∧ s.holdsSection slot sec = true then
        some .recalling
      else s.holdStateOf n sec := by
  rw [← holdStateOf_recallHolds]
  exact holdStateOf_of_holds ((sendAnswer_holds _ _ _).trans (modifyCarrier_holds _ _ _)) n sec

theorem setCutback_order (s : State) (slot target upto sec : Nat) :
    ((setCutback slot target upto s).holders sec).map (fun h => h.slot) = (s.holders sec).map (fun h => h.slot) := by
  rw [← holders_slots_recallHolds s slot sec ((s.carrier slot).sectionsBetween target upto)]
  exact congrArg _ (holders_of_holds ((sendAnswer_holds _ _ _).trans (modifyCarrier_holds _ _ _)) sec)

theorem setCutback_rest (s : State) (slot target upto : Nat) :
    let v := setCutback slot target upto s
    v.occupancy = s.occupancy ∧ v.waits = s.waits ∧ v.portD = s.portD ∧
      v.portC = (offerOwn .c (cutbackOf s slot ((s.carrier slot).cutbackNumber + 1) target) s).portC := by
  obtain ⟨_, waits, occupancy, portC, portD⟩ :=
    recallHolds_keeps slot ((s.carrier slot).sectionsBetween target upto) s
  refine ⟨?_, ?_, ?_, ?_⟩
  · exact (sendAnswer_occupancy _ _ _).trans ((modifyCarrier_occupancy _ _ _).trans occupancy)
  · exact (sendAnswer_waits _ _ _).trans ((modifyCarrier_waits _ _ _).trans waits)
  · exact (sendAnswer_portD _ _ _).trans ((modifyCarrier_portD _ _ _).trans portD)
  · unfold setCutback
    dsimp only
    rw [sendAnswer_portC, portC_offerOwn, portC_offerOwn, modifyCarrier_portC, portC]
    rfl

/-- The target below which a trigger must lie to have an effect: that of the cutback in flight, or the limit. -/
def Carrier.askedTo (c : Carrier) : Nat := (c.cutback.map (fun k => k.target)).getD c.limit

/-- A trigger below the standing target or limit begins or supersedes a cutback (R120, R121). -/
theorem trigger_sent {s : State} {slot target : Nat} (hs : (s.carrier slot).state = .active)
    (ht : target < Carrier.askedTo (s.carrier slot)) :
    CutbackSent slot target (Carrier.askedTo (s.carrier slot)) s (trigger slot target s) := by
  have ha := admitted_of_active hs
  cases hk : (s.carrier slot).cutback with
  | some k =>
    have upto : Carrier.askedTo (s.carrier slot) = k.target := by simp [Carrier.askedTo, hk]
    rw [upto] at ht ⊢
    have eq : trigger slot target s = setCutback slot target k.target s := by
      simp only [trigger, hk, if_pos ht]
    obtain ⟨occupancy, waits, portD, portC⟩ := setCutback_rest s slot target k.target
    rw [eq]
    constructor
    · rw [setCutback_carrier ha, if_pos rfl, hk]; rfl
    · exact fun n sec => setCutback_holdStateOf s slot target _ n sec
    · exact fun sec => setCutback_order s slot target _ sec
    · exact occupancy
    · exact waits
    · exact fun n hn => by rw [setCutback_carrier ha, if_neg hn]
    · exact portC
    · exact portD
    · exact setCutback_trafficOnly s slot target _
  | none =>
    have upto : Carrier.askedTo (s.carrier slot) = (s.carrier slot).limit := by simp [Carrier.askedTo, hk]
    rw [upto] at ht ⊢
    -- the hold-idle counter is cleared first, which nothing that follows reads
    obtain ⟨u, hu⟩ : ∃ u, u = s.modifyCarrier slot (fun c => { c with holdIdle := 0 }) := ⟨_, rfl⟩
    have eq : trigger slot target s = setCutback slot target (s.carrier slot).limit u := by
      simp only [trigger, hk, hs, decide_true, Bool.true_and, decide_eq_true ht, if_true, hu]
    have own : u.carrier slot = { s.carrier slot with holdIdle := 0 } := by rw [hu, carrier_modifyCarrier]; simp [ha]
    have other : ∀ n, n ≠ slot → u.carrier n = s.carrier n := fun n hn => by
      rw [hu, carrier_modifyCarrier]; simp [hn]
    have holds : u.holds = s.holds := by rw [hu, modifyCarrier_holds]
    have ha' : u.admitted slot = true := by rw [hu, admitted_modifyCarrier]; exact ha
    have params : u.params = s.params := by rw [hu, modifyCarrier_params]
    have sections : u.sections = s.sections := by rw [hu, modifyCarrier_sections]
    have strap : u.stationStrap = s.stationStrap := by rw [hu, modifyCarrier_stationStrap]
    have frame : ∀ number, cutbackOf u slot number target = cutbackOf s slot number target := fun number => by
      simp only [cutbackOf, own, available, State.lengthOf, sections, State.partStation, strap]
    obtain ⟨occupancy, waits, portD, portC⟩ := setCutback_rest u slot target (s.carrier slot).limit
    rw [eq]
    constructor
    · rw [setCutback_carrier ha', if_pos rfl]
      simp only [askedContext, own, frame, params, hk]
      rfl
    · intro n sec
      rw [setCutback_holdStateOf, holdStateOf_of_holds holds, own]
      simp only [State.holdsSection, holders_of_holds holds]
      rfl
    · exact fun sec => (setCutback_order u slot target _ sec).trans (by rw [holders_of_holds holds])
    · exact occupancy.trans (by rw [hu, modifyCarrier_occupancy])
    · exact waits.trans (by rw [hu, modifyCarrier_waits])
    · exact fun n hn => by rw [setCutback_carrier ha', if_neg hn, other n hn]
    · refine portC.trans ?_
      rw [portC_offerOwn, portC_offerOwn, frame, own, hu, modifyCarrier_portC]
    · exact portD.trans (by rw [hu, modifyCarrier_portD])
    · exact TrafficOnly.trans (hu ▸ modifyCarrier_trafficOnly s slot _) (setCutback_trafficOnly u slot target _)

/-- A trigger at or above the standing target or limit changes nothing (R121). -/
theorem trigger_absorbed {s : State} {slot target : Nat} (ht : ¬target < Carrier.askedTo (s.carrier slot)) :
    trigger slot target s = s := by
  unfold trigger
  cases hk : (s.carrier slot).cutback with
  | none => simp only [Carrier.askedTo, hk] at ht; simp_all
  | some k => simp only [Carrier.askedTo, hk] at ht; simp_all

theorem CutbackSent.grows {slot target upto : Nat} {s v : State} (h : CutbackSent slot target upto s v) : Grows s v := by
  unfold Grows
  rw [h.portC]
  exact offerOwn_grows _ s

theorem CutbackSent.offered {slot target upto : Nat} {s v : State} (h : CutbackSent slot target upto s v) :
    Offered (cutbackOf s slot ((s.carrier slot).cutbackNumber + 1) target) s v := by
  have := offerOwn_offered (cutbackOf s slot ((s.carrier slot).cutbackNumber + 1) target) s
  unfold Offered appended at *
  change v.portC.outbound.length < 16 → _ ∈ v.portC.outbound.drop _
  rw [h.portC]
  exact this

end Sys2Proof.Proofs
end

section
/-! What a close does to the traffic (R9, R11, R101, R118): the waits it ends, slot by slot, and the carriers it asks
back, slot by slot. -/

namespace Sys2Proof.Proofs

open Sys2Proof Sys2Proof.Machine Sys2Proof.Laws

/-! ### The first closed section ahead -/

theorem closed_congr {s t : State} (h : SameMap s t) (sec : Nat) : t.closed sec = s.closed sec := by
  have zone : t.zoneOf sec = s.zoneOf sec := by simp only [State.zoneOf, h.sections]
  have own : t.sectionOpen sec = s.sectionOpen sec := by simp only [State.sectionOpen, h.sections]
  unfold State.closed State.zoneIsOpen
  rw [zone, own, h.zones]

theorem firstClosedAhead_congr {s t : State} (h : SameMap s t) (c : Carrier) :
    firstClosedAhead t c = firstClosedAhead s c := by
  simp only [firstClosedAhead, closed_congr h]

theorem ahead_getElem? (c : Carrier) (m : Nat) :
    c.ahead[m]? = if m < c.limit - c.head then c.route[c.head + 1 + m]? else none := by
  rw [Carrier.ahead, List.getElem?_take, List.getElem?_drop]

/-- An index ahead is closed exactly where the entry of the ahead run is. -/
theorem closedAt_iff (s : State) (c : Carrier) (j : Nat) :
    (c.head < j ∧ j ≤ c.limit ∧ ∃ e, c.route[j]? = some e ∧ s.closed e.sec = true) ↔
      ∃ m, j = c.head + 1 + m ∧ ∃ e, c.ahead[m]? = some e ∧ s.closed e.sec = true := by
  constructor
  · rintro ⟨h1, h2, e, he, hc⟩
    refine ⟨j - (c.head + 1), by omega, e, ?_, hc⟩
    rw [ahead_getElem?, if_pos (by omega), show c.head + 1 + (j - (c.head + 1)) = j by omega, he]
  · rintro ⟨m, rfl, e, he, hc⟩
    rw [ahead_getElem?] at he
    split at he
    · exact ⟨by omega, by omega, e, he, hc⟩
    · cases he

theorem firstClosedAhead_eq_some_iff {s : State} {c : Carrier} {i : Nat} :
    firstClosedAhead s c = some i ↔ FirstClosedAhead s c i := by
  have found : ∀ m, c.ahead.findIdx? (fun e => s.closed e.sec) = some m ↔
      (∃ e, c.ahead[m]? = some e ∧ s.closed e.sec = true) ∧
        ∀ j, j < m → ¬∃ e, c.ahead[j]? = some e ∧ s.closed e.sec = true := fun m => by
    rw [List.findIdx?_eq_some_iff_getElem]
    constructor
    · rintro ⟨hm, hc, hj⟩
      refine ⟨⟨_, List.getElem?_eq_getElem hm, hc⟩, ?_⟩
      rintro j hlt ⟨e, he, hce⟩
      obtain ⟨h', rfl⟩ := List.getElem?_eq_some_iff.mp he
      exact hj j hlt hce
    · rintro ⟨⟨e, he, hc⟩, hj⟩
      obtain ⟨h', rfl⟩ := List.getElem?_eq_some_iff.mp he
      exact ⟨h', hc, fun j hlt hcj => hj j hlt ⟨_, List.getElem?_eq_getElem (hlt.trans h'), hcj⟩⟩
  simp only [firstClosedAhead, FirstClosedAhead, closedAt_iff, Option.map_eq_some_iff, found]
  constructor
  · rintro ⟨m, ⟨hm, hj⟩, rfl⟩
    refine ⟨⟨m, rfl, hm⟩, ?_⟩
    rintro j hlt ⟨k, rfl, hk⟩
    exact hj k (by omega) hk
  · rintro ⟨⟨m, rfl, hm⟩, hj⟩
    exact ⟨m, ⟨hm, fun k hk he => hj (c.head + 1 + k) (by omega) ⟨k, rfl, he⟩⟩, rfl⟩

/-! ### The close trigger of one carrier -/

/-- The target to which a close asks a carrier back: just before its first closed section ahead, where that lies below
the target in flight or the limit (R118, R120, R121). -/
def asks (s : State) (c : Carrier) : Option Nat :=
  if c.state = .active then
    (firstClosedAhead s c).bind (fun i => if i - 1 < Carrier.askedTo c then some (i - 1) else none)
  else none

theorem asks_congr {s t : State} (h : SameMap s t) (c : Carrier) : asks t c = asks s c := by
  simp only [asks, firstClosedAhead_congr h]

theorem asks_eq_some_iff {s : State} {c : Carrier} {target : Nat} :
    asks s c = some target ↔
      c.state = .active ∧ ∃ i, firstClosedAhead s c = some i ∧ target = i - 1 ∧ i - 1 < Carrier.askedTo c := by
  unfold asks
  split
  · rename_i h
    simp only [h, true_and, Option.bind_eq_some_iff, Option.ite_none_right_eq_some, Option.some.injEq]
    exact ⟨fun ⟨i, hi, ht, he⟩ => ⟨i, hi, he.symm, ht⟩, fun ⟨i, hi, he, ht⟩ => ⟨i, hi, ht, he.symm⟩⟩
  · rename_i h
    simp [h]

theorem closeTrigger_sent {s : State} {slot target : Nat} (h : asks s (s.carrier slot) = some target) :
    CutbackSent slot target (Carrier.askedTo (s.carrier slot)) s (closeTrigger slot s) := by
  obtain ⟨active, i, hi, rfl, ht⟩ := asks_eq_some_iff.mp h
  have eq : closeTrigger slot s = trigger slot (i - 1) s := by
    unfold closeTrigger
    dsimp only
    rw [if_pos active, hi]
  rw [eq]
  exact trigger_sent active ht

theorem closeTrigger_idle {s : State} {slot : Nat} (h : asks s (s.carrier slot) = none) : closeTrigger slot s = s := by
  unfold closeTrigger
  dsimp only
  split
  · rename_i active
    cases hi : firstClosedAhead s (s.carrier slot) with
    | none => rfl
    | some i =>
      refine trigger_absorbed fun ht => ?_
      rw [asks_eq_some_iff.mpr ⟨active, i, hi, rfl, ht⟩] at h
      cases h
  · rfl

/-- What the close triggers leave of the traffic: who holds what in which order, occupancies, waits; and Port C only
grows. -/
structure TriggerKeeps (s t : State) : Prop where
  order : ∀ sec, (t.holders sec).map (fun h => h.slot) = (s.holders sec).map (fun h => h.slot)
  occupancy : t.occupancy = s.occupancy
  waits : t.waits = s.waits
  grows : Grows s t

theorem TriggerKeeps.refl (s : State) : TriggerKeeps s s := ⟨fun _ => rfl, rfl, rfl, Grows.refl s⟩

theorem TriggerKeeps.trans {s t u : State} (h : TriggerKeeps s t) (k : TriggerKeeps t u) : TriggerKeeps s u :=
  ⟨fun sec => (k.order sec).trans (h.order sec), k.occupancy.trans h.occupancy, k.waits.trans h.waits,
    h.grows.trans k.grows⟩

theorem TriggerKeeps.holdsSection {s t : State} (h : TriggerKeeps s t) (n sec : Nat) :
    t.holdsSection n sec = s.holdsSection n sec := holdsSection_eq_of_slots s n sec (h.order sec)

theorem closeTrigger_keeps (slot : Nat) (s : State) : TriggerKeeps s (closeTrigger slot s) := by
  cases h : asks s (s.carrier slot) with
  | none => rw [closeTrigger_idle h]; exact TriggerKeeps.refl s
  | some target =>
    have sent := closeTrigger_sent h
    exact ⟨sent.order, sent.occupancy, sent.waits, CutbackSent.grows sent⟩

theorem closeTrigger_other {slot n : Nat} (s : State) (hn : n ≠ slot) :
    (closeTrigger slot s).carrier n = s.carrier n ∧
      ∀ sec, (closeTrigger slot s).holdStateOf n sec = s.holdStateOf n sec := by
  cases h : asks s (s.carrier slot) with
  | none => rw [closeTrigger_idle h]; exact ⟨rfl, fun _ => rfl⟩
  | some target =>
    have sent := closeTrigger_sent h
    exact ⟨sent.others n hn, fun sec => (sent.states n sec).trans (if_neg fun e => hn e.1)⟩

theorem asks_carrier_closeTrigger_other {slot n : Nat} (s : State) (hn : n ≠ slot) :
    asks (closeTrigger slot s) ((closeTrigger slot s).carrier n) = asks s (s.carrier n) := by
  rw [asks_congr (closeTrigger_trafficOnly s slot).map, (closeTrigger_other s hn).1]

/-- A carrier just asked back is not asked again: the cutback in flight stands at the target. -/
theorem asks_after_sent {s : State} {slot target : Nat} (h : asks s (s.carrier slot) = some target) :
    asks (closeTrigger slot s) ((closeTrigger slot s).carrier slot) = none := by
  obtain ⟨_, i, hi, rfl, _⟩ := asks_eq_some_iff.mp h
  have ctx := (closeTrigger_sent h).context
  have first : firstClosedAhead s ((closeTrigger slot s).carrier slot) = some i := by
    rw [ctx]; exact hi
  have askedTo : Carrier.askedTo ((closeTrigger slot s).carrier slot) = i - 1 := by rw [ctx]; rfl
  rw [asks_congr (closeTrigger_trafficOnly s slot).map, asks, first, Option.bind_some, askedTo,
    if_neg (lt_irrefl _), ite_self]

/-! ### The close triggers of all carriers -/

/-- The close triggers of the listed slots, one after another. -/
def closeTriggersOf (l : List Nat) (s : State) : State := l.foldl (fun s slot => closeTrigger slot s) s

theorem closeTriggers_eq (s : State) : closeTriggers s = closeTriggersOf s.slots s := rfl

theorem closeTriggersOf_keeps (l : List Nat) (s : State) : TriggerKeeps s (closeTriggersOf l s) := by
  induction l generalizing s with
  | nil => exact TriggerKeeps.refl s
  | cons a l ih => exact (closeTrigger_keeps a s).trans (ih _)

/-- A carrier that is not listed, or has nothing to be asked, keeps its context and the states of its holds. -/
theorem closeTriggersOf_leaves {n : Nat} (l : List Nat) (s : State) (h : n ∈ l → asks s (s.carrier n) = none) :
    (closeTriggersOf l s).carrier n = s.carrier n ∧
      ∀ sec, (closeTriggersOf l s).holdStateOf n sec = s.holdStateOf n sec := by
  induction l generalizing s with
  | nil => exact ⟨rfl, fun _ => rfl⟩
  | cons a l ih =>
    change (closeTriggersOf l (closeTrigger a s)).carrier n = _ ∧
      ∀ sec, (closeTriggersOf l (closeTrigger a s)).holdStateOf n sec = _
    by_cases ha : n = a
    · subst ha
      have idle := h (List.mem_cons_self ..)
      rw [closeTrigger_idle idle]
      exact ih s fun _ => idle
    · obtain ⟨carrier, states⟩ := closeTrigger_other s ha
      obtain ⟨carrier', states'⟩ := ih (closeTrigger a s) fun hn => by
        rw [asks_carrier_closeTrigger_other s ha]; exact h (List.mem_cons_of_mem _ hn)
      exact ⟨carrier'.trans carrier, fun sec => (states' sec).trans (states sec)⟩

/-- A carrier has been asked back to a target: its context with the cutback in flight, what lies above the target
RECALLING, and the CUTBACK offered. -/
structure AskedBack (slot target : Nat) (s v : State) : Prop where
  context : v.carrier slot =
    { askedContext s slot target with
      holdIdle := if (s.carrier slot).cutback.isSome then (s.carrier slot).holdIdle else 0 }
  states : ∀ sec, v.holdStateOf slot sec =
    if sec ∈ (s.carrier slot).sectionsBetween target (Carrier.askedTo (s.carrier slot)) ∧
        s.holdsSection slot sec = true then some .recalling
    else s.holdStateOf slot sec
  offered : Offered (cutbackOf s slot ((s.carrier slot).cutbackNumber + 1) target) s v

theorem AskedBack.ofSent {slot target : Nat} {s v : State}
    (h : CutbackSent slot target (Carrier.askedTo (s.carrier slot)) s v) : AskedBack slot target s v where
  context := h.context
  states sec := by rw [h.states]; simp only [true_and]
  offered := CutbackSent.offered h

/-- What later triggers leave of a carrier that has been asked back. -/
theorem AskedBack.leave {slot target : Nat} {s t v : State} (h : AskedBack slot target s t) (hg : Grows s t)
    (hv : v.carrier slot = t.carrier slot ∧ ∀ sec, v.holdStateOf slot sec = t.holdStateOf slot sec) (hg' : Grows t v) :
    AskedBack slot target s v where
  context := hv.1.trans h.context
  states sec := (hv.2 sec).trans (h.states sec)
  offered := h.offered.grow hg hg'

theorem cutbackOf_congr {s t : State} {slot : Nat} (h : TrafficOnly s t) (hc : t.carrier slot = s.carrier slot)
    (number : Byte) (target : Nat) : cutbackOf t slot number target = cutbackOf s slot number target := by
  simp only [cutbackOf, hc, available, State.lengthOf, h.map.sections, State.partStation, h.board.stationStrap]

/-- What earlier triggers of other carriers leave. -/
theorem AskedBack.since {slot target : Nat} {s t v : State} (h : AskedBack slot target t v) (traffic : TrafficOnly s t)
    (keeps : TriggerKeeps s t)
    (ht : t.carrier slot = s.carrier slot ∧ ∀ sec, t.holdStateOf slot sec = s.holdStateOf slot sec) :
    AskedBack slot target s v where
  context := by
    have := h.context
    simpa only [askedContext, ht.1, cutbackOf_congr traffic ht.1, traffic.control.params] using this
  states sec := by
    have := h.states sec
    simpa only [ht.1, ht.2, keeps.holdsSection] using this
  offered := by
    have := h.offered.since keeps.grows
    rwa [cutbackOf_congr traffic ht.1, ht.1] at this

theorem closeTriggersOf_asks {n target : Nat} (l : List Nat) (s : State) (hn : n ∈ l)
    (h : asks s (s.carrier n) = some target) : AskedBack n target s (closeTriggersOf l s) := by
  induction l generalizing s with
  | nil => cases hn
  | cons a l ih =>
    change AskedBack n target s (closeTriggersOf l (closeTrigger a s))
    by_cases ha : n = a
    · subst ha
      exact (AskedBack.ofSent (closeTrigger_sent h)).leave (closeTrigger_keeps n s).grows
        (closeTriggersOf_leaves l _ fun _ => asks_after_sent h) (closeTriggersOf_keeps l _).grows
    · exact (ih (closeTrigger a s) ((List.mem_cons.mp hn).resolve_left ha)
        ((asks_carrier_closeTrigger_other s ha).trans h)).since (closeTrigger_trafficOnly s a) (closeTrigger_keeps a s)
        (closeTrigger_other s ha)

theorem mem_slots_of_admitted {s : State} {n : Nat} (h : s.admitted n = true) : n ∈ s.slots := by
  obtain ⟨c, hc⟩ := Option.isSome_iff_exists.mp h
  exact List.mem_map.mpr ⟨(n, c), mem_of_lookup hc, rfl⟩

/-- Two contexts that differ at most in cutback, cutback number, last answer and hold-idle counter. -/
structure SameBesidesCutback (c d : Carrier) : Prop where
  station : d.station = c.station
  params : d.params = c.params
  route : d.route = c.route
  head : d.head = c.head
  limit : d.limit = c.limit
  trail : d.trail = c.trail
  lastSequence : d.lastSequence = c.lastSequence
  grantNumber : d.grantNumber = c.grantNumber
  keptGrant : d.keptGrant = c.keptGrant
  passedOver : d.passedOver = c.passedOver
  effectivePriority : d.effectivePriority = c.effectivePriority
  condition : d.condition = c.condition

theorem carrier_closeTriggers (s : State) (n : Nat) :
    SameBesidesCutback (s.carrier n) ((closeTriggers s).carrier n) := by
  rw [closeTriggers_eq]
  cases h : asks s (s.carrier n) with
  | none =>
    rw [(closeTriggersOf_leaves s.slots s fun _ => h).1]
    constructor <;> rfl
  | some target =>
    have hn := mem_slots_of_admitted (admitted_of_active (asks_eq_some_iff.mp h).1)
    rw [(closeTriggersOf_asks s.slots s hn h).context]
    constructor <;> rfl

/-! ### The waits a close ends -/

/-- The GRANT of R101 for a waiter's stored limit. -/
def turnedGrant (s : State) (c : Carrier) : Grant :=
  ⟨c.routeNumber, c.limit, available s c c.limit, permittedSpeed s c, .closedAhead⟩

/-- R101 sends a GRANT where the part is RUNNING and no cutback is in flight. -/
def sendsGrant (s : State) (c : Carrier) : Bool := s.partState = .running && c.cutback.isNone

/-- The context of a carrier whose wait a close has ended (R100, R101). -/
def turnedContext (s : State) (c : Carrier) : Carrier :=
  { c with
    passedOver := 0
    effectivePriority := c.params.priority
    condition := .closedAhead
    grantNumber := if sendsGrant s c then (turnedGrant s c).number c else c.grantNumber
    keptGrant := if sendsGrant s c then some (c.limit, permittedSpeed s c) else c.keptGrant
    lastAnswer := if sendsGrant s c then some (grantFrame s c (turnedGrant s c)) else c.lastAnswer }

theorem sameSpan_of_trafficOnly {s t : State} (h : TrafficOnly s t) (c : Carrier) : SameSpan s t c c where
  lengthOf n := by simp only [State.lengthOf, h.map.sections]
  speedLimitOf n := by simp only [State.speedLimitOf, h.map.sections]
  margin := by rw [h.control.params]
  params := rfl
  route := rfl
  head := rfl
  limit := rfl
  headSection := rfl
  remaining := rfl
  requestedSpeed := rfl

theorem turnedGrant_congr {s t : State} {c d : Carrier} (h : SameSpan s t c d) (hr : d.routeNumber = c.routeNumber) :
    turnedGrant t d = turnedGrant s c := by
  simp only [turnedGrant, hr, h.limit, available_congr h, permittedSpeed_congr h]

theorem grantFrame_congr {s t : State} (hc : t.cycle = s.cycle) (hs : t.stationStrap = s.stationStrap) (c : Carrier)
    (g : Grant) : grantFrame t c g = grantFrame s c g := by
  simp only [grantFrame, State.partStation, hs, expiry, hc]

theorem sendsGrant_congr {s t : State} (h : t.partState = s.partState) (c : Carrier) :
    sendsGrant t c = sendsGrant s c := by
  unfold sendsGrant
  rw [h]

theorem turnedContext_congr {s t : State} {c : Carrier} (h : SameSpan s t c c) (hc : SameControl s t)
    (hs : t.stationStrap = s.stationStrap) : turnedContext t c = turnedContext s c := by
  simp only [turnedContext, sendsGrant_congr hc.partState, turnedGrant_congr h rfl, grantFrame_congr hc.cycle hs,
    permittedSpeed_congr h]

theorem waitOf_isSome_iff {s : State} {n : Nat} : (s.waitOf n).isSome = true ↔ ∃ w ∈ s.waits, w.slot = n := by
  simp [State.waitOf]

theorem admitted_endWait (n k : Nat) (s : State) : (endWait n s).admitted k = s.admitted k := by
  unfold endWait
  split
  · rfl
  · exact admitted_modifyCarrier _ n k _

theorem carrier_endWait_other {n k : Nat} (s : State) (h : k ≠ n) : (endWait n s).carrier k = s.carrier k := by
  unfold endWait
  split
  · rfl
  · rw [carrier_modifyCarrier, if_neg fun e => h e.1]
    rfl

theorem carrier_endWait_same {n : Nat} {s : State} (hw : (s.waitOf n).isSome = true) (ha : s.admitted n = true) :
    (endWait n s).carrier n =
      { s.carrier n with passedOver := 0, effectivePriority := (s.carrier n).params.priority } := by
  obtain ⟨w, hw⟩ := Option.isSome_iff_exists.mp hw
  unfold endWait
  rw [hw]
  exact (carrier_modifyCarrier _ n n _).trans (if_pos ⟨rfl, ha⟩)

theorem endWait_frame (n : Nat) (s : State) :
    (endWait n s).holds = s.holds ∧ (endWait n s).occupancy = s.occupancy ∧ (endWait n s).portC = s.portC := by
  unfold endWait
  split
  · exact ⟨rfl, rfl, rfl⟩
  · exact ⟨modifyCarrier_holds _ _ _, modifyCarrier_occupancy _ _ _, modifyCarrier_portC _ _ _⟩

theorem carrier_sendGrant_same {n : Nat} {s : State} (ha : s.admitted n = true) (g : Grant) :
    (sendGrant n g s).carrier n =
      { s.carrier n with
        grantNumber := g.number (s.carrier n)
        keptGrant := some (g.limit, g.speed)
        condition := g.reason.condition (s.carrier n).condition
        lastAnswer := some (grantFrame s (s.carrier n) g) } := by
  unfold sendGrant
  dsimp only
  rw [sendAnswer_carrier, admitted_modifyCarrier, if_pos ⟨rfl, ha⟩, carrier_modifyCarrier, if_pos ⟨rfl, ha⟩]

theorem carrier_sendGrant_other {n k : Nat} (s : State) (g : Grant) (h : k ≠ n) :
    (sendGrant n g s).carrier k = s.carrier k := by
  unfold sendGrant
  dsimp only
  rw [sendAnswer_carrier, if_neg fun e => h e.1, carrier_modifyCarrier, if_neg fun e => h e.1]

theorem admitted_sendGrant (n k : Nat) (g : Grant) (s : State) : (sendGrant n g s).admitted k = s.admitted k := by
  unfold sendGrant sendAnswer
  dsimp only
  rw [admitted_eq_of_carriers (offerOwn_carriers _ .c _), admitted_modifyCarrier, admitted_modifyCarrier]

theorem sendGrant_frame (n : Nat) (g : Grant) (s : State) :
    (sendGrant n g s).holds = s.holds ∧ (sendGrant n g s).occupancy = s.occupancy ∧
      (sendGrant n g s).waits = s.waits ∧
      (sendGrant n g s).portC = (offerOwn .c (grantFrame s (s.carrier n) g) s).portC := by
  unfold sendGrant
  dsimp only
  rw [sendAnswer_holds, sendAnswer_occupancy, sendAnswer_waits, sendAnswer_portC, portC_offerOwn, portC_offerOwn]
  simp

theorem closeWait_eq (n : Nat) (s : State) :
    closeWait n s =
      if sendsGrant (endWait n s) ((endWait n s).carrier n) then
        sendGrant n (turnedGrant (endWait n s) ((endWait n s).carrier n)) (endWait n s)
      else (endWait n s).modifyCarrier n (fun c => { c with condition := .closedAhead }) := rfl

theorem carrier_closeWait_other {n k : Nat} (s : State) (h : k ≠ n) : (closeWait n s).carrier k = s.carrier k := by
  rw [closeWait_eq]
  split
  · rw [carrier_sendGrant_other _ _ h, carrier_endWait_other s h]
  · rw [carrier_modifyCarrier, if_neg fun e => h e.1, carrier_endWait_other s h]

theorem admitted_closeWait (n k : Nat) (s : State) : (closeWait n s).admitted k = s.admitted k := by
  rw [closeWait_eq]
  split
  · rw [admitted_sendGrant, admitted_endWait]
  · rw [admitted_modifyCarrier, admitted_endWait]

/-- What the end of a wait by a close leaves of the rest of the traffic. -/
structure CloseWaitKeeps (n : Nat) (s t : State) : Prop where
  holds : t.holds = s.holds
  occupancy : t.occupancy = s.occupancy
  waits : t.waits = s.waits.filter (fun w => w.slot ≠ n)
  grows : Grows s t

theorem closeWait_keeps (n : Nat) (s : State) : CloseWaitKeeps n s (closeWait n s) := by
  obtain ⟨holds, occupancy, portC⟩ := endWait_frame n s
  have waits := waits_endWait s n
  rw [closeWait_eq]
  split
  · obtain ⟨holds', occupancy', waits', portC'⟩ :=
      sendGrant_frame n (turnedGrant (endWait n s) ((endWait n s).carrier n)) (endWait n s)
    refine ⟨holds'.trans holds, occupancy'.trans occupancy, waits'.trans waits, (grows_of_eq portC).trans ?_⟩
    unfold Grows
    rw [portC']
    exact offerOwn_grows _ _
  · exact ⟨(modifyCarrier_holds _ _ _).trans holds, (modifyCarrier_occupancy _ _ _).trans occupancy,
      (modifyCarrier_waits _ _ _).trans waits, grows_of_eq ((modifyCarrier_portC _ _ _).trans portC)⟩

/-- A waiter has been turned away (R101): its context, and the GRANT offered where one is sent. -/
structure TurnedAway (n : Nat) (s v : State) : Prop where
  context : v.carrier n = turnedContext s (s.carrier n)
  offered : sendsGrant s (s.carrier n) = true → Offered (grantFrame s (s.carrier n) (turnedGrant s (s.carrier n))) s v

theorem closeWait_turnedAway {n : Nat} {s : State} (hw : (s.waitOf n).isSome = true) (ha : s.admitted n = true) :
    TurnedAway n s (closeWait n s) := by
  have ctx := carrier_endWait_same hw ha
  have traffic := endWait_trafficOnly s n
  have span : SameSpan s (endWait n s) (s.carrier n) ((endWait n s).carrier n) := by
    constructor
    · exact (sameSpan_of_trafficOnly traffic (s.carrier n)).lengthOf
    · exact (sameSpan_of_trafficOnly traffic (s.carrier n)).speedLimitOf
    · exact (sameSpan_of_trafficOnly traffic (s.carrier n)).margin
    all_goals rw [ctx]
  have sends : sendsGrant (endWait n s) ((endWait n s).carrier n) = sendsGrant s (s.carrier n) := by
    rw [sendsGrant_congr traffic.control.partState, ctx]
    rfl
  have grant : turnedGrant (endWait n s) ((endWait n s).carrier n) = turnedGrant s (s.carrier n) :=
    turnedGrant_congr span (by rw [ctx])
  have frame : grantFrame (endWait n s) ((endWait n s).carrier n) (turnedGrant s (s.carrier n)) =
      grantFrame s (s.carrier n) (turnedGrant s (s.carrier n)) := by
    rw [grantFrame_congr traffic.control.cycle traffic.board.stationStrap, ctx]
    rfl
  have ha' : (endWait n s).admitted n = true := (admitted_endWait n n s).trans ha
  have eq := closeWait_eq n s
  rw [sends, grant] at eq
  cases hs : sendsGrant s (s.carrier n) with
  | true =>
    rw [hs, if_pos rfl] at eq
    constructor
    · rw [eq, carrier_sendGrant_same ha', frame, ctx]
      simp only [turnedContext, hs, if_true]
      rfl
    · intro _
      obtain ⟨_, _, _, portC⟩ := sendGrant_frame n (turnedGrant s (s.carrier n)) (endWait n s)
      rw [frame] at portC
      have off := offerOwn_offered (grantFrame s (s.carrier n) (turnedGrant s (s.carrier n))) (endWait n s)
      refine Offered.since (grows_of_eq (endWait_frame n s).2.2) ?_
      unfold Offered appended at *
      rw [eq]
      change (sendGrant n (turnedGrant s (s.carrier n)) (endWait n s)).portC.outbound.length < 16 →
        _ ∈ (sendGrant n (turnedGrant s (s.carrier n)) (endWait n s)).portC.outbound.drop _
      rw [portC]
      exact off
  | false =>
    rw [hs, if_neg Bool.false_ne_true] at eq
    constructor
    · rw [eq, carrier_modifyCarrier, if_pos ⟨rfl, ha'⟩, ctx]
      simp only [turnedContext, hs, Bool.false_eq_true, if_false]
    · exact fun h => absurd (hs.symm.trans h) Bool.false_ne_true

/-- The waits of the listed slots are ended one after another. -/
def closeWaitsOf (l : List Nat) (s : State) : State := l.foldl (fun s slot => closeWait slot s) s

theorem closeWaitsOf_trafficOnly (l : List Nat) (s : State) : TrafficOnly s (closeWaitsOf l s) :=
  TrafficOnly.foldl (fun s n => closeWait_trafficOnly s n) l s

theorem closeWaitsOf_grows (l : List Nat) (s : State) : Grows s (closeWaitsOf l s) :=
  Grows.foldl (fun s n => (closeWait_keeps n s).grows) l s

theorem closeWaitsOf_holds (l : List Nat) (s : State) :
    (closeWaitsOf l s).holds = s.holds ∧ (closeWaitsOf l s).occupancy = s.occupancy := by
  induction l generalizing s with
  | nil => exact ⟨rfl, rfl⟩
  | cons a l ih =>
    obtain ⟨holds, occupancy⟩ := ih (closeWait a s)
    exact ⟨holds.trans (closeWait_keeps a s).holds, occupancy.trans (closeWait_keeps a s).occupancy⟩

theorem closeWaitsOf_waits (l : List Nat) (s : State) :
    (closeWaitsOf l s).waits = s.waits.filter (fun w => w.slot ∉ l) := by
  induction l generalizing s with
  | nil => simp [closeWaitsOf]
  | cons a l ih =>
    change (closeWaitsOf l (closeWait a s)).waits = _
    rw [ih, (closeWait_keeps a s).waits, List.filter_filter]
    exact List.filter_congr fun w _ => by simp [Bool.and_comm]

theorem closeWaitsOf_other {n : Nat} (l : List Nat) (s : State) (h : n ∉ l) :
    (closeWaitsOf l s).carrier n = s.carrier n := by
  induction l generalizing s with
  | nil => rfl
  | cons a l ih =>
    obtain ⟨ha, hl⟩ := not_or.mp (mt List.mem_cons.mpr h)
    exact (ih (closeWait a s) hl).trans (carrier_closeWait_other s ha)

theorem closeWaitsOf_unadmitted {n : Nat} (l : List Nat) (s : State) (h : s.admitted n = false) :
    (closeWaitsOf l s).admitted n = false := by
  induction l generalizing s with
  | nil => exact h
  | cons a l ih => exact ih (closeWait a s) ((admitted_closeWait a n s).trans h)

theorem closeWaitsOf_turnedAway {n : Nat} (l : List Nat) (s : State) (hl : l.Nodup)
    (hw : ∀ k ∈ l, (s.waitOf k).isSome = true) (hn : n ∈ l) (ha : s.admitted n = true) :
    TurnedAway n s (closeWaitsOf l s) := by
  induction l generalizing s with
  | nil => cases hn
  | cons a l ih =>
    change TurnedAway n s (closeWaitsOf l (closeWait a s))
    obtain ⟨hal, hl⟩ := List.nodup_cons.mp hl
    by_cases hna : n = a
    · subst hna
      have turned := closeWait_turnedAway (hw n (List.mem_cons_self ..)) ha
      exact ⟨(closeWaitsOf_other l _ hal).trans turned.context,
        fun h => (turned.offered h).grow (closeWait_keeps n s).grows (closeWaitsOf_grows l _)⟩
    · have traffic := closeWait_trafficOnly s a
      have carrier := carrier_closeWait_other s hna
      have waiting : ∀ k ∈ l, ((closeWait a s).waitOf k).isSome = true := fun k hk => by
        obtain ⟨w, hm, rfl⟩ := waitOf_isSome_iff.mp (hw k (List.mem_cons_of_mem _ hk))
        refine waitOf_isSome_iff.mpr ⟨w, ?_, rfl⟩
        rw [(closeWait_keeps a s).waits]
        exact List.mem_filter.mpr ⟨hm, by simpa using fun e : w.slot = a => hal (e ▸ hk)⟩
      obtain ⟨context, offered⟩ := ih (closeWait a s) hl waiting ((List.mem_cons.mp hn).resolve_left hna)
        ((admitted_closeWait a n s).trans ha)
      rw [carrier] at context offered
      have span := sameSpan_of_trafficOnly traffic (s.carrier n)
      refine ⟨context.trans (turnedContext_congr span traffic.control traffic.board.stationStrap), fun h => ?_⟩
      have sends : sendsGrant (closeWait a s) (s.carrier n) = true :=
        (sendsGrant_congr traffic.control.partState _).trans h
      have off := (offered sends).since (closeWait_keeps a s).grows
      rwa [turnedGrant_congr span rfl, grantFrame_congr traffic.control.cycle traffic.board.stationStrap] at off

/-- Two contexts that differ at most in what R100 and R101 write: pass-overs, priority, condition and the last GRANT. -/
structure SameBesidesWait (c d : Carrier) : Prop where
  state : d.state = c.state
  station : d.station = c.station
  params : d.params = c.params
  routeNumber : d.routeNumber = c.routeNumber
  route : d.route = c.route
  head : d.head = c.head
  limit : d.limit = c.limit
  trail : d.trail = c.trail
  remaining : d.remaining = c.remaining
  lastSequence : d.lastSequence = c.lastSequence
  cutbackNumber : d.cutbackNumber = c.cutbackNumber
  cutback : d.cutback = c.cutback
  holdIdle : d.holdIdle = c.holdIdle

theorem carrier_closeWaitsOf {l : List Nat} {s : State} (hl : l.Nodup) (hw : ∀ k ∈ l, (s.waitOf k).isSome = true)
    (n : Nat) : SameBesidesWait (s.carrier n) ((closeWaitsOf l s).carrier n) := by
  by_cases h : n ∈ l ∧ s.admitted n = true
  · rw [(closeWaitsOf_turnedAway l s hl hw h.1 h.2).context]
    constructor <;> rfl
  · have same : (closeWaitsOf l s).carrier n = s.carrier n := by
      by_cases hn : n ∈ l
      · have ha : s.admitted n = false := Bool.not_eq_true _ ▸ fun ha => h ⟨hn, ha⟩
        rw [carrier_of_not_admitted (closeWaitsOf_unadmitted l s ha), carrier_of_not_admitted ha]
      · exact closeWaitsOf_other l s hn
    rw [same]
    constructor <;> rfl

end Sys2Proof.Proofs
end

section
/-! SECTION_CLOSE and ZONE_CLOSE (R9, R11, R101, R118): the waits ended and the carriers asked back, told of the state
before the command. -/

namespace Sys2Proof.Proofs

open Sys2Proof Sys2Proof.Machine Sys2Proof.Laws

/-! ### From the state before the command to the state the close begins on -/

/-- What the taking of the frame and the change of an open state leave: traffic, control, board, Port C, and all that
the stopping arithmetic reads of the map. -/
structure Shut (s u : State) : Prop where
  traffic : SameTraffic s u
  control : SameControl s u
  board : SameBoard s u
  portC : u.portC = s.portC
  lengthOf : ∀ n, u.lengthOf n = s.lengthOf n
  speedLimitOf : ∀ n, u.speedLimitOf n = s.speedLimitOf n

theorem shut_section {s : State} {n : Nat} {e : SectionEntry} (h : lookup s.sections n = some e) :
    Shut s { dropFront .d s with sections := insertAt s.sections n { e with isOpen := false } } where
  traffic := ⟨rfl, rfl, rfl, rfl⟩
  control := ⟨rfl, rfl, rfl, rfl, rfl, rfl⟩
  board := ⟨rfl, rfl, rfl, rfl, rfl⟩
  portC := rfl
  lengthOf k := by
    simp only [State.lengthOf, lookup_insertAt]
    split
    · rename_i hk; rw [hk, h]; rfl
    · rfl
  speedLimitOf k := by
    simp only [State.speedLimitOf, lookup_insertAt]
    split
    · rename_i hk; rw [hk, h]; rfl
    · rfl

theorem shut_zone (s : State) (zones : List (Nat × ZoneEntry)) : Shut s { dropFront .d s with zones := zones } :=
  ⟨⟨rfl, rfl, rfl, rfl⟩, ⟨rfl, rfl, rfl, rfl, rfl, rfl⟩, ⟨rfl, rfl, rfl, rfl, rfl⟩, rfl, fun _ => rfl, fun _ => rfl⟩

/-- A wait for closed space that is no re-take of the carrier's own trail (R101). -/
def turnsAway (closes : Nat → Bool) (s : State) (w : WaitEntry) : Bool :=
  closes w.wantedSection && !(s.carrier w.slot).inTrail w.wantedSection

/-- The state between the two parts of a close: waits ended, no carrier asked back yet. -/
def afterWaits (closes : Nat → Bool) (u : State) : State := closeWaitsOf (closedWaits closes u) u

/-! ### The two parts of a close, one slot at a time -/

section

variable (closes : Nat → Bool) (u : State)

theorem afterWaits_trafficOnly : TrafficOnly u (afterWaits closes u) := closeWaitsOf_trafficOnly _ u

theorem closeTraffic_trafficOnly_afterWaits : TrafficOnly (afterWaits closes u) (closeTraffic closes u) :=
  TrafficOnly.foldl (fun s a => closeTrigger_trafficOnly s a) _ _

theorem closeTraffic_keeps : TriggerKeeps (afterWaits closes u) (closeTraffic closes u) := closeTriggersOf_keeps _ _

theorem closeTraffic_context (n : Nat) :
    SameBesidesCutback ((afterWaits closes u).carrier n) ((closeTraffic closes u).carrier n) :=
  carrier_closeTriggers _ n

variable {closes u} {n : Nat}

theorem closeTraffic_leaves (h : asks (afterWaits closes u) ((afterWaits closes u).carrier n) = none) :
    (closeTraffic closes u).carrier n = (afterWaits closes u).carrier n ∧
      ∀ sec, (closeTraffic closes u).holdStateOf n sec = (afterWaits closes u).holdStateOf n sec :=
  closeTriggersOf_leaves _ _ fun _ => h

theorem closeTraffic_asks {target : Nat}
    (h : asks (afterWaits closes u) ((afterWaits closes u).carrier n) = some target) :
    AskedBack n target (afterWaits closes u) (closeTraffic closes u) :=
  closeTriggersOf_asks _ _ (mem_slots_of_admitted (admitted_of_active (asks_eq_some_iff.mp h).1)) h

end

/-! ### The context of a waiter that is turned away, with and without a GRANT -/

theorem grantNumber_eq (s : State) (c : Carrier) :
    (turnedGrant s c).number c =
      if c.keptGrant = some (c.limit, permittedSpeed s c) then c.grantNumber else c.grantNumber + 1 := by
  by_cases h : c.keptGrant = some (c.limit, permittedSpeed s c)
  · simp [Grant.number, Grant.differs, turnedGrant, h]
  · simp [Grant.number, Grant.differs, turnedGrant, h]

section

variable {s : State} {c : Carrier}

theorem sendsGrant_iff : sendsGrant s c = true ↔ s.partState = .running ∧ c.cutback = none := by
  simp [sendsGrant]

theorem turnedContext_granted (h : sendsGrant s c = true) :
    turnedContext s c =
      { c with
        passedOver := 0
        effectivePriority := c.params.priority
        condition := .closedAhead
        grantNumber := (turnedGrant s c).number c
        keptGrant := some (c.limit, permittedSpeed s c)
        lastAnswer := some (grantFrame s c (turnedGrant s c)) } := by
  simp only [turnedContext, h, if_true]

theorem turnedContext_ungranted (h : sendsGrant s c = false) :
    turnedContext s c =
      { c with passedOver := 0, effectivePriority := c.params.priority, condition := .closedAhead } := by
  simp only [turnedContext, h, Bool.false_eq_true, if_false]

end

/-! ### A close told of the state before the command -/

section

variable {closes : Nat → Bool} {s u : State} (shut : Shut s u)

include shut

theorem Shut.carrier (n : Nat) : u.carrier n = s.carrier n := carrier_eq_of_carriers shut.traffic.carriers n

theorem Shut.admitted (n : Nat) : u.admitted n = s.admitted n := admitted_eq_of_carriers shut.traffic.carriers n

theorem Shut.span (c : Carrier) : SameSpan s u c c :=
  ⟨shut.lengthOf, shut.speedLimitOf, by rw [shut.control.params], rfl, rfl, rfl, rfl, rfl, rfl, rfl⟩

theorem Shut.grows_afterWaits : Grows s (afterWaits closes u) := (grows_of_eq shut.portC).trans (closeWaitsOf_grows _ u)

theorem Shut.holds_afterWaits : (afterWaits closes u).holds = s.holds :=
  (closeWaitsOf_holds _ u).1.trans shut.traffic.holds

theorem Shut.closedWaits : closedWaits closes u = (s.waits.filter (turnsAway closes s)).map (fun w => w.slot) := by
  unfold Machine.closedWaits turnsAway
  simp only [shut.traffic.waits, shut.carrier]

theorem Shut.mem_closedWaits {n : Nat} :
    n ∈ Machine.closedWaits closes u ↔ ∃ w ∈ s.waits, turnsAway closes s w = true ∧ w.slot = n := by
  rw [shut.closedWaits]
  simp only [List.mem_map, List.mem_filter, and_assoc]

theorem Shut.waiting {k : Nat} (hk : k ∈ Machine.closedWaits closes u) : (u.waitOf k).isSome = true := by
  obtain ⟨w, hw, _, rfl⟩ := shut.mem_closedWaits.mp hk
  exact waitOf_isSome_iff.mpr ⟨w, shut.traffic.waits ▸ hw, rfl⟩

theorem Shut.order (sec : Nat) :
    ((closeTraffic closes u).holders sec).map (fun h => h.slot) = (s.holders sec).map (fun h => h.slot) := by
  rw [(closeTraffic_keeps closes u).order, holders_of_holds shut.holds_afterWaits]

theorem Shut.occupancy : (closeTraffic closes u).occupancy = s.occupancy :=
  (closeTraffic_keeps closes u).occupancy.trans ((closeWaitsOf_holds _ u).2.trans shut.traffic.occupancy)

variable (once : (s.waits.map (fun w => w.slot)).Nodup)

include once

theorem Shut.closedWaits_nodup : (Machine.closedWaits closes u).Nodup := by
  rw [shut.closedWaits]
  exact once.sublist (List.filter_sublist.map _)

/-- The entries whose slots are turned away are exactly those the close names, since no slot waits twice. -/
theorem Shut.slot_mem_closedWaits {w : WaitEntry} (hw : w ∈ s.waits) :
    w.slot ∈ Machine.closedWaits closes u ↔ turnsAway closes s w = true := by
  rw [shut.mem_closedWaits]
  constructor
  · rintro ⟨x, hx, hc, hs⟩
    rwa [← List.inj_on_of_nodup_map once hx hw hs]
  · exact fun hc => ⟨w, hw, hc, rfl⟩

theorem Shut.waits_closeTraffic :
    (closeTraffic closes u).waits =
      s.waits.filter (fun w => !closes w.wantedSection || (s.carrier w.slot).inTrail w.wantedSection) := by
  rw [(closeTraffic_keeps closes u).waits, afterWaits, closeWaitsOf_waits, shut.traffic.waits]
  refine List.filter_congr fun w hw => ?_
  rw [Bool.eq_iff_iff, decide_eq_true_iff, shut.slot_mem_closedWaits once hw, turnsAway]
  simp [imp_iff_not_or]

theorem Shut.context_afterWaits (n : Nat) : SameBesidesWait (s.carrier n) ((afterWaits closes u).carrier n) := by
  rw [← shut.carrier]
  exact carrier_closeWaitsOf (shut.closedWaits_nodup once) (fun _ => shut.waiting) n

theorem Shut.askedTo_afterWaits (n : Nat) :
    Carrier.askedTo ((afterWaits closes u).carrier n) = Carrier.askedTo (s.carrier n) := by
  have waits := shut.context_afterWaits (closes := closes) once n
  simp only [Carrier.askedTo, waits.cutback, waits.limit]

/-- Whom the triggers ask back, read from the context before and the map after the close. -/
theorem Shut.asks_afterWaits (n : Nat) :
    asks (afterWaits closes u) ((afterWaits closes u).carrier n) = asks (closeTraffic closes u) (s.carrier n) := by
  have waits := shut.context_afterWaits (closes := closes) once n
  have first : firstClosedAhead (afterWaits closes u) ((afterWaits closes u).carrier n) =
      firstClosedAhead (afterWaits closes u) (s.carrier n) := by
    simp only [firstClosedAhead, Carrier.ahead, waits.route, waits.head, waits.limit]
  rw [asks_congr (closeTraffic_trafficOnly_afterWaits closes u).map, asks, waits.state, first,
    shut.askedTo_afterWaits once]
  rfl

/-! ### The waiters turned away -/

theorem Shut.turnedAway {n : Nat} (hn : n ∈ Machine.closedWaits closes u) (ha : s.admitted n = true) :
    TurnedAway n s (afterWaits closes u) := by
  obtain ⟨context, offered⟩ := closeWaitsOf_turnedAway _ u (shut.closedWaits_nodup once) (fun _ => shut.waiting) hn
    ((shut.admitted n).trans ha)
  rw [shut.carrier] at context offered
  refine ⟨context.trans (turnedContext_congr (shut.span _) shut.control shut.board.stationStrap), fun h => ?_⟩
  have off := (offered ((sendsGrant_congr shut.control.partState _).trans h)).ofPort shut.portC
  rwa [turnedGrant_congr (shut.span _) rfl, grantFrame_congr shut.control.cycle shut.board.stationStrap] at off

/-- The GRANT of R101 as the state after the close lays it out. -/
theorem Shut.grantOf_eq {n : Nat}
    (hg : ((closeTraffic closes u).carrier n).grantNumber = (turnedGrant s (s.carrier n)).number (s.carrier n)) :
    grantOf (closeTraffic closes u) n (s.carrier n).routeNumber (s.carrier n).limit
        (available s (s.carrier n) (s.carrier n).limit) (permittedSpeed s (s.carrier n)) 0x04 =
      grantFrame s (s.carrier n) (turnedGrant s (s.carrier n)) := by
  have waits := shut.context_afterWaits (closes := closes) once n
  have triggers := closeTraffic_context closes u n
  have traffic := closeTraffic_trafficOnly u closes
  have cycle : (closeTraffic closes u).cycle = s.cycle := traffic.control.cycle.trans shut.control.cycle
  have strap : (closeTraffic closes u).stationStrap = s.stationStrap :=
    traffic.board.stationStrap.trans shut.board.stationStrap
  simp only [grantOf, grantFrame, hg, triggers.station, waits.station, triggers.lastSequence, waits.lastSequence,
    triggers.params, waits.params, cycle, State.partStation, strap]
  rfl

/-- Step 2 of R101 for one waiter: the GRANT is the last answer unless a cutback has been sent since. -/
theorem Shut.closedGrant {n : Nat} (hn : n ∈ Machine.closedWaits closes u) (ha : s.admitted n = true)
    (hr : s.partState = .running) (hc : (s.carrier n).cutback = none) : ClosedGrant n s (closeTraffic closes u) := by
  have triggers := closeTraffic_context closes u n
  have sends := sendsGrant_iff.mpr ⟨hr, hc⟩
  obtain ⟨context, offered⟩ := shut.turnedAway once hn ha
  rw [turnedContext_granted sends] at context
  have number : ((closeTraffic closes u).carrier n).grantNumber =
      (turnedGrant s (s.carrier n)).number (s.carrier n) := by
    rw [triggers.grantNumber, context]
  constructor
  · rw [triggers.keptGrant, context]
  · rw [number, grantNumber_eq]
  · intro hv
    rw [shut.grantOf_eq once number]
    cases h : asks (afterWaits closes u) ((afterWaits closes u).carrier n) with
    | none => rw [(closeTraffic_leaves h).1, context]
    | some target =>
      rw [(closeTraffic_asks h).context] at hv
      cases hv
  · rw [shut.grantOf_eq once number]
    exact (offered sends).grow shut.grows_afterWaits (closeTraffic_keeps closes u).grows

/-- Where R101 sends no GRANT, the last answer stands unless a cutback has been sent, whose record is a new one. -/
theorem Shut.ungranted {n : Nat} (hn : n ∈ Machine.closedWaits closes u) (ha : s.admitted n = true)
    (h : s.partState ≠ .running ∨ (s.carrier n).cutback ≠ none) :
    let d := (closeTraffic closes u).carrier n
    d.keptGrant = (s.carrier n).keptGrant ∧ d.grantNumber = (s.carrier n).grantNumber ∧
      (d.cutback = (s.carrier n).cutback → d.lastAnswer = (s.carrier n).lastAnswer) := by
  intro d
  have triggers := closeTraffic_context closes u n
  have sends : sendsGrant s (s.carrier n) = false := by
    rw [← Bool.not_eq_true, sendsGrant_iff, not_and_or]
    exact h
  have context := (shut.turnedAway once hn ha).context
  rw [turnedContext_ungranted sends] at context
  refine ⟨?_, ?_, fun hk => ?_⟩
  · rw [triggers.keptGrant, context]
  · rw [triggers.grantNumber, context]
  · cases ha' : asks (afterWaits closes u) ((afterWaits closes u).carrier n) with
    | none => rw [show d = _ from (closeTraffic_leaves ha').1, context]
    | some target =>
      obtain ⟨_, i, _, rfl, ht⟩ := asks_eq_some_iff.mp ha'
      have sent : d.cutback = _ := congrArg Carrier.cutback (closeTraffic_asks ha').context
      rw [Carrier.askedTo, (shut.context_afterWaits once n).cutback, ← hk, sent] at ht
      exact absurd ht (lt_irrefl _)

/-- What a close leaves of a waiter it turns away (R100, R101). -/
theorem Shut.turned {w : WaitEntry} (hw : w ∈ s.waits) (hc : turnsAway closes s w = true)
    (ha : s.admitted w.slot = true) :
    let d := (closeTraffic closes u).carrier w.slot
    d.condition = .closedAhead ∧ d.passedOver = 0 ∧ d.effectivePriority = (s.carrier w.slot).params.priority := by
  have hn : w.slot ∈ Machine.closedWaits closes u := (shut.slot_mem_closedWaits once hw).mpr hc
  have triggers := closeTraffic_context closes u w.slot
  have context := (shut.turnedAway once hn ha).context
  refine ⟨?_, ?_, ?_⟩
  · rw [triggers.condition, context]; rfl
  · rw [triggers.passedOver, context]; rfl
  · rw [triggers.effectivePriority, context]; rfl

/-! ### The carriers asked back -/

theorem Shut.cutbackOf_eq (n : Nat) (number : Byte) (target : Nat) :
    cutbackOf (afterWaits closes u) n number target = cutbackOf s n number target := by
  have waits := shut.context_afterWaits (closes := closes) once n
  have traffic := afterWaits_trafficOnly closes u
  have lengths : ∀ k, (afterWaits closes u).lengthOf k = s.lengthOf k := fun k => by
    rw [← shut.lengthOf]; simp only [State.lengthOf, traffic.map.sections]
  have strap : (afterWaits closes u).stationStrap = s.stationStrap :=
    traffic.board.stationStrap.trans shut.board.stationStrap
  simp only [cutbackOf, available, waits.station, waits.lastSequence, waits.routeNumber, waits.route, waits.head,
    waits.remaining, lengths, State.partStation, strap]

/-- A carrier with nothing to be asked keeps cutback and holds. -/
theorem Shut.cutbackKept {n : Nat} (h : asks (closeTraffic closes u) (s.carrier n) = none) :
    CutbackKept n s (closeTraffic closes u) := by
  have waits := shut.context_afterWaits (closes := closes) once n
  obtain ⟨carrier, states⟩ := closeTraffic_leaves ((shut.asks_afterWaits once n).trans h)
  constructor
  · rw [carrier, waits.cutback]
  · rw [carrier, waits.cutbackNumber]
  · rw [carrier, waits.holdIdle]
  · exact fun sec => (states sec).trans (holdStateOf_of_holds shut.holds_afterWaits n sec)

/-- A carrier asked back to a target, told of the state before the command (R120 to R122). -/
theorem Shut.askedBack {n target : Nat} (h : asks (closeTraffic closes u) (s.carrier n) = some target) :
    AskedBack n target (afterWaits closes u) (closeTraffic closes u) :=
  closeTraffic_asks ((shut.asks_afterWaits once n).trans h)

theorem Shut.closedBefore {n i : Nat} (active : (s.carrier n).state = .active)
    (hi : FirstClosedAhead (closeTraffic closes u) (s.carrier n) i) :
    ClosedBefore n (i - 1) s (closeTraffic closes u) := by
  have first := firstClosedAhead_eq_some_iff.mpr hi
  have waits := shut.context_afterWaits (closes := closes) once n
  refine ⟨fun hk => ?_, fun ⟨k, hk, hle⟩ => shut.cutbackKept once ?_⟩
  · have below : i - 1 < Carrier.askedTo (s.carrier n) := by
      obtain ⟨⟨hlt, hle, _⟩, _⟩ := hi
      cases hc : (s.carrier n).cutback with
      | none => simp only [Carrier.askedTo, hc, Option.map_none, Option.getD_none]; omega
      | some k => simpa only [Carrier.askedTo, hc, Option.map_some, Option.getD_some] using hk k hc
    obtain ⟨context, states, offered⟩ := shut.askedBack once (asks_eq_some_iff.mpr ⟨active, i, first, rfl, below⟩)
    have params : (afterWaits closes u).params = s.params :=
      (afterWaits_trafficOnly closes u).control.params.trans shut.control.params
    simp only [askedContext, shut.cutbackOf_eq once, params, waits.cutbackNumber, waits.cutback, waits.holdIdle] at context
    rw [shut.cutbackOf_eq once, waits.cutbackNumber] at offered
    refine ⟨?_, ?_, ?_, ?_, fun hl => offered.since shut.grows_afterWaits hl, fun sec => ?_⟩
    · rw [context]
    · rw [context]
    · rw [context]
    · rw [context]
      cases (s.carrier n).cutback <;> rfl
    · have held : (afterWaits closes u).holdsSection n sec = s.holdsSection n sec := by
        simp only [State.holdsSection, holders_of_holds shut.holds_afterWaits]
      have between : ∀ lo hi, ((afterWaits closes u).carrier n).sectionsBetween lo hi =
          (s.carrier n).sectionsBetween lo hi := fun lo hi => by simp only [Carrier.sectionsBetween, waits.route]
      rw [states, held, between, shut.askedTo_afterWaits once, holdStateOf_of_holds shut.holds_afterWaits]
      rfl
  · rw [Option.eq_none_iff_forall_ne_some]
    rintro target ht
    obtain ⟨_, j, hj, rfl, hlt⟩ := asks_eq_some_iff.mp ht
    rw [first] at hj
    cases hj
    simp only [Carrier.askedTo, hk, Option.map_some, Option.getD_some] at hlt
    omega

/-- A carrier that is not ACTIVE or holds no closed section ahead keeps cutback and holds. -/
theorem Shut.notAsked {n : Nat}
    (h : (s.carrier n).state ≠ .active ∨ ∀ i, ¬FirstClosedAhead (closeTraffic closes u) (s.carrier n) i) :
    CutbackKept n s (closeTraffic closes u) := by
  refine shut.cutbackKept once (Option.eq_none_iff_forall_ne_some.mpr fun target ht => ?_)
  obtain ⟨active, i, hi, _, _⟩ := asks_eq_some_iff.mp ht
  rcases h with h | h
  · exact h active
  · exact h i (firstClosedAhead_eq_some_iff.mp hi)

/-- What a close does to the traffic, told of the state before the command. -/
theorem Shut.closedAway : ClosedAway closes s (closeTraffic closes u) := by
  refine ⟨shut.waits_closeTraffic once, fun w hw hc ht ha => ?_, fun n i active hi => shut.closedBefore once active hi,
    fun n h => shut.notAsked once h, shut.order, shut.occupancy, fun n => ?_⟩
  · have turns : turnsAway closes s w = true := by simp [turnsAway, hc, ht]
    have hn := (shut.slot_mem_closedWaits once hw).mpr turns
    obtain ⟨condition, passedOver, priority⟩ := shut.turned once hw turns ha
    exact ⟨condition, passedOver, priority, fun hr hk => shut.closedGrant once hn ha hr hk,
      fun h => shut.ungranted once hn ha h⟩
  · have waits := shut.context_afterWaits (closes := closes) once n
    have triggers := closeTraffic_context closes u n
    exact ⟨triggers.limit.trans waits.limit, triggers.head.trans waits.head, triggers.route.trans waits.route,
      triggers.trail.trans waits.trail⟩

end

/-! ### The commands -/

/-- Settles O14: the refusals by `onSection`, the close by `Shut.closedAway`. -/
theorem sectionCloseTurnsAway : Obligations.SectionCloseTurnsAway := by
  intro m s hm hl once n u
  rw [exec_sectionClose hm]
  refine ⟨fun h => ?_, fun h1 h2 h => ?_, fun e h1 h2 h ho => ?_, fun e h1 h2 h ho => ?_⟩
  · rw [handleSectionClose, onSection_badNumber _ hl h]
  · rw [handleSectionClose, onSection_notLoaded (s := dropFront .d s) _ hl h1 h2 h]
  · rw [handleSectionClose, onSection_loaded (s := dropFront .d s) _ hl h1 h2 h, if_neg (Bool.eq_false_iff.mp ho)]
  · have shut := shut_section h
    have traffic := closeTraffic_trafficOnly
      { dropFront .d s with sections := insertAt s.sections n { e with isOpen := false } } (fun k => k = n)
    refine ⟨_, ?_, traffic.map.sections, traffic.map.zones, traffic.map.freeRecords,
      SameControl.trans shut.control traffic.control, SameBoard.trans shut.board traffic.board, shut.closedAway once⟩
    rw [handleSectionClose, onSection_loaded (s := dropFront .d s) _ hl h1 h2 h, if_pos ho,
      setSectionOpen_eq (s := dropFront .d s) false h]
    rfl

/-- Settles O15: the same for the sections of a zone, whose membership the change of its open state leaves. -/
theorem zoneCloseTurnsAway : Obligations.ZoneCloseTurnsAway := by
  intro m s hm hl once z u
  rw [exec_zoneClose hm]
  refine ⟨fun h => ?_, fun h1 h2 h => ?_, fun e h1 h2 h ho => ?_, fun e h1 h2 h ho => ?_⟩
  · rw [handleZoneClose, onZone_badNumber _ hl h]
  · rw [handleZoneClose, onZone_notLoaded (s := dropFront .d s) _ hl h1 h2 h]
  · rw [handleZoneClose, onZone_loaded (s := dropFront .d s) _ hl h1 h2 h, if_neg (Bool.eq_false_iff.mp ho)]
  · have shut := shut_zone s (insertAt s.zones z { e with isOpen := false })
    have traffic := closeTraffic_trafficOnly
      { dropFront .d s with zones := insertAt s.zones z { e with isOpen := false } } (fun k => s.zoneOf k = z)
    refine ⟨_, ?_, traffic.map.zones, traffic.map.sections, traffic.map.freeRecords,
      SameControl.trans shut.control traffic.control, SameBoard.trans shut.board traffic.board, shut.closedAway once⟩
    rw [handleZoneClose, onZone_loaded (s := dropFront .d s) _ hl h1 h2 h, if_pos ho,
      setZoneOpen_eq (s := dropFront .d s) false h]
    rfl

end Sys2Proof.Proofs
end

section
/-! The form of a route order (R47, R157): entries and their three bytes, and which bodies spell which entries. -/

namespace Sys2Proof.Proofs

open Sys2Proof Sys2Proof.Machine Sys2Proof.Laws

/-! ### Bytes, directions and single entries -/

theorem toNat_byte {n : Nat} (h : n < 256) : (byte n).toNat = n := by simp [byte, Nat.mod_eq_of_lt h]

theorem byte_toNat (b : Byte) : byte b.toNat = b := BitVec.ofNat_toNat _ b

theorem direction_ofCode_eq_some_iff {b : Byte} {d : Direction} : Direction.ofCode b = some d ↔ b = d.code := by
  constructor
  · intro h
    unfold Direction.ofCode at h
    split at h
    · rename_i h1; cases h; exact h1
    · split at h
      · rename_i h2; cases h; exact h2
      · cases h
  · rintro rfl
    cases d <;> rfl

theorem direction_ofCode_eq_none_iff {b : Byte} : Direction.ofCode b = none ↔ b ≠ 0x01 ∧ b ≠ 0x02 := by
  unfold Direction.ofCode
  split
  · rename_i h1; exact iff_of_false nofun fun h => h.1 h1
  · rename_i h1
    split
    · rename_i h2; exact iff_of_false nofun fun h => h.2 h2
    · rename_i h2; exact iff_of_true rfl ⟨h1, h2⟩

theorem halfBytes_eq_iff {h : Half} {x y : Byte} : halfBytes h = [x, y] ↔ h = (x ++ y : BitVec 16) := by
  constructor
  · intro e
    obtain ⟨high, low⟩ := List.cons.inj e
    rw [← high, ← (List.cons.inj low).1, halfBytes_append]
  · rintro rfl
    rw [halfBytes, BitVec.extractLsb'_append_eq_left, BitVec.extractLsb'_append_eq_right]

theorem bytes2_eq_iff {n : Nat} {x y : Byte} (hn : n < 65536) : bytes2 n = [x, y] ↔ n = (x ++ y : BitVec 16).toNat := by
  rw [bytes2, halfBytes_eq_iff, BitVec.toNat_eq, BitVec.toNat_ofNat, Nat.mod_eq_of_lt hn]

/-- Three bytes spell an entry exactly where section and direction read back from them (R157). -/
theorem routeEntry_bytes_eq_iff {e : RouteEntry} {x y z : Byte} :
    (e.sec < 65536 ∧ e.bytes = [x, y, z]) ↔
      e.sec = (x ++ y : BitVec 16).toNat ∧ Direction.ofCode z = some e.direction := by
  have split : e.bytes = [x, y, z] ↔ bytes2 e.sec = [x, y] ∧ e.direction.code = z := by
    simp [RouteEntry.bytes, bytes2, halfBytes, and_assoc]
  rw [direction_ofCode_eq_some_iff, split, eq_comm (a := z)]
  constructor
  · rintro ⟨hn, hs, hd⟩
    exact ⟨(bytes2_eq_iff hn).mp hs, hd⟩
  · rintro ⟨hs, hd⟩
    have hn : e.sec < 65536 := hs ▸ (x ++ y : BitVec 16).isLt
    exact ⟨hn, (bytes2_eq_iff hn).mpr hs, hd⟩

/-! ### The entries of a body -/

theorem length_flatten_bytes (es : List RouteEntry) : ((es.map RouteEntry.bytes).flatten).length = 3 * es.length := by
  induction es with
  | nil => rfl
  | cons e es ih =>
    rw [List.map_cons, List.flatten_cons, List.length_append, ih, List.length_cons,
      show e.bytes.length = 3 from rfl]
    omega

theorem drop_eq_byteAt_cons {bs : List Byte} {i : Nat} (h : i < bs.length) :
    bs.drop i = byteAt bs i :: bs.drop (i + 1) := by
  rw [List.drop_eq_getElem_cons h, byteAt, List.getD_eq_getElem _ _ h]

/-- One entry more is read: its three bytes, then the rest. -/
theorem entriesAt_succ_eq_some_iff {bs : List Byte} {i n : Nat} {es : List RouteEntry} :
    entriesAt bs i (n + 1) = some es ↔ ∃ e rest, es = e :: rest ∧ e.sec = numAt2 bs i ∧
      Direction.ofCode (byteAt bs (i + 2)) = some e.direction ∧ entriesAt bs (i + 3) n = some rest := by
  rw [entriesAt]
  constructor
  · intro h
    split at h
    · rename_i d rest hd hrest
      exact ⟨⟨numAt2 bs i, d⟩, rest, (Option.some.inj h).symm, rfl, hd, hrest⟩
    · cases h
  · rintro ⟨⟨sec, d⟩, rest, rfl, rfl, hd, hrest⟩
    rw [hd, hrest]

/-- The entries read to the end of a body are those whose bytes stand there. -/
theorem entriesAt_eq_some_iff {bs : List Byte} {n : Nat} : ∀ {i : Nat} {es : List RouteEntry}, bs.length = i + 3 * n →
    (entriesAt bs i n = some es ↔
      es.length = n ∧ (∀ e ∈ es, e.sec < 65536) ∧ bs.drop i = (es.map RouteEntry.bytes).flatten) := by
  induction n with
  | zero =>
    intro i es hl
    have hd : bs.drop i = [] := List.drop_eq_nil_of_le (by omega)
    constructor
    · intro h
      cases h
      exact ⟨rfl, List.forall_mem_nil _, hd⟩
    · rintro ⟨h, -⟩
      rw [List.length_eq_zero_iff.mp h]
      rfl
  | succ n ih =>
    intro i es hl
    have three : bs.drop i = [byteAt bs i, byteAt bs (i + 1), byteAt bs (i + 2)] ++ bs.drop (i + 3) := by
      rw [drop_eq_byteAt_cons (by omega), drop_eq_byteAt_cons (by omega), drop_eq_byteAt_cons (by omega)]
      rfl
    have rest := fun es => ih (i := i + 3) (es := es) (by omega)
    rw [entriesAt_succ_eq_some_iff]
    constructor
    · rintro ⟨e, es, rfl, hsec, hdir, hes⟩
      obtain ⟨len, secs, bytes⟩ := (rest es).mp hes
      obtain ⟨sec, entry⟩ := routeEntry_bytes_eq_iff.mpr ⟨hsec, hdir⟩
      refine ⟨by rw [List.length_cons, len], List.forall_mem_cons.mpr ⟨sec, secs⟩, ?_⟩
      rw [three, bytes, List.map_cons, List.flatten_cons, entry]
    · rintro ⟨len, secs, bytes⟩
      obtain ⟨e, es, rfl⟩ := List.exists_cons_of_length_eq_add_one len
      obtain ⟨sec, secs⟩ := List.forall_mem_cons.mp secs
      rw [three, List.map_cons, List.flatten_cons] at bytes
      obtain ⟨entry, bytes⟩ := List.append_inj bytes rfl
      obtain ⟨hsec, hdir⟩ := routeEntry_bytes_eq_iff.mp ⟨sec, entry.symm⟩
      exact ⟨e, es, rfl, hsec, hdir, (rest es).mpr ⟨Nat.succ.inj len, secs, bytes⟩⟩

/-- No entries are read exactly where a direction byte among them is neither FWD nor REV (R47). -/
theorem entriesAt_eq_none_iff {bs : List Byte} {n : Nat} : ∀ {i : Nat}, entriesAt bs i n = none ↔
    ∃ j, j < n ∧ byteAt bs (i + 2 + 3 * j) ≠ 0x01 ∧ byteAt bs (i + 2 + 3 * j) ≠ 0x02 := by
  induction n with
  | zero => intro i; simp [entriesAt]
  | succ n ih =>
    intro i
    have step : entriesAt bs i (n + 1) = none ↔
        Direction.ofCode (byteAt bs (i + 2)) = none ∨ entriesAt bs (i + 3) n = none := by
      rw [entriesAt]
      cases Direction.ofCode (byteAt bs (i + 2)) with
      | none => simp
      | some d => cases entriesAt bs (i + 3) n <;> simp
    have later (j : Nat) : i + 3 + 2 + 3 * j = i + 2 + 3 * (j + 1) := by omega
    rw [step, direction_ofCode_eq_none_iff, ih]
    simp only [later]
    constructor
    · rintro (h | ⟨j, hj, h⟩)
      · exact ⟨0, Nat.succ_pos n, h⟩
      · exact ⟨j + 1, Nat.succ_lt_succ hj, h⟩
    · rintro ⟨j, hj, h⟩
      cases j with
      | zero => exact .inl h
      | succ j => exact .inr ⟨j, Nat.lt_of_succ_lt_succ hj, h⟩

/-! ### Check 3 of R45 -/

/-- The body of an order is a route number other than 0, the number of entries, 1 to 32, and the entries (R47, R157). -/
def Spells (o : RouteOrder) (es : List RouteEntry) : Prop :=
  byteAt o.body 0 ≠ 0 ∧ 1 ≤ es.length ∧ es.length ≤ 32 ∧ (∀ e ∈ es, e.sec < 65536) ∧
    o.body = [byteAt o.body 0, byte es.length] ++ (es.map RouteEntry.bytes).flatten

/-- A body does not have the form of R47. -/
def IllFormed (o : RouteOrder) : Prop :=
  byteAt o.body 0 = 0 ∨ numAt o.body 1 = 0 ∨ 32 < numAt o.body 1 ∨ o.body.length ≠ 2 + 3 * numAt o.body 1 ∨
    ∃ i, i < numAt o.body 1 ∧ byteAt o.body (4 + 3 * i) ≠ 0x01 ∧ byteAt o.body (4 + 3 * i) ≠ 0x02

section

variable {o : RouteOrder} {es : List RouteEntry}

theorem orderEntries_eq (o : RouteOrder) :
    orderEntries o =
      if byteAt o.body 0 = 0 ∨ numAt o.body 1 = 0 ∨ 32 < numAt o.body 1 ∨
          o.body.length ≠ 2 + 3 * numAt o.body 1 then none
      else entriesAt o.body 2 (numAt o.body 1) := by
  have number : numAt o.body 0 = 0 ↔ byteAt o.body 0 = 0 := (BitVec.toNat_eq (y := (0 : Byte))).symm
  unfold orderEntries
  refine if_congr ?_ rfl rfl
  simp only [number, Bool.or_eq_true, decide_eq_true_eq, or_assoc]
  exact Iff.rfl

theorem orderEntries_eq_none_iff : orderEntries o = none ↔ IllFormed o := by
  have entries := entriesAt_eq_none_iff (bs := o.body) (n := numAt o.body 1) (i := 2)
  rw [orderEntries_eq, IllFormed]
  split
  · rename_i h
    refine iff_of_true rfl ?_
    obtain h | h | h | h := h <;> simp only [h, true_or, or_true, ne_eq, not_false_eq_true]
  · rename_i h
    rw [entries]
    simp only [not_or] at h
    obtain ⟨h0, h1, h32, hl⟩ := h
    simp only [h0, h1, h32, hl, false_or, Nat.reduceAdd]

/-- The second byte of a spelled body counts the entries, and the body holds nothing else. -/
theorem counts_of_body (h : o.body = [byteAt o.body 0, byte es.length] ++ (es.map RouteEntry.bytes).flatten) :
    byteAt o.body 1 = byte es.length ∧ o.body.length = 2 + 3 * es.length := by
  refine ⟨congrArg (byteAt · 1) h, ?_⟩
  have := congrArg List.length h
  rwa [List.length_append, length_flatten_bytes] at this

theorem orderEntries_eq_some_iff : orderEntries o = some es ↔ Spells o es := by
  rw [orderEntries_eq]
  constructor
  · intro h
    split at h
    · cases h
    · rename_i form
      simp only [not_or, not_not] at form
      obtain ⟨h0, h1, h32, hl⟩ := form
      obtain ⟨len, secs, bytes⟩ := (entriesAt_eq_some_iff hl).mp h
      refine ⟨h0, by omega, by omega, secs, ?_⟩
      rw [len, numAt, byte_toNat, ← bytes, List.cons_append, List.cons_append, List.nil_append,
        ← drop_eq_byteAt_cons (by omega), ← drop_eq_byteAt_cons (by omega), List.drop_zero]
  · rintro ⟨h0, h1, h32, secs, body⟩
    obtain ⟨second, length⟩ := counts_of_body body
    have count : numAt o.body 1 = es.length := by rw [numAt, second, toNat_byte (by omega)]
    rw [count, if_neg (by simp only [not_or]; exact ⟨h0, by omega, by omega, not_not.mpr length⟩),
      entriesAt_eq_some_iff length]
    exact ⟨rfl, secs, congrArg (List.drop 2) body⟩

/-- A well-formed body that is spelled so has 1 to 32 entries. -/
theorem spells_of_wellFormed (h : ¬IllFormed o)
    (body : o.body = [byteAt o.body 0, byte es.length] ++ (es.map RouteEntry.bytes).flatten)
    (secs : ∀ e ∈ es, e.sec < 65536) : Spells o es := by
  obtain ⟨-, length⟩ := counts_of_body body
  simp only [IllFormed, not_or, not_not] at h
  obtain ⟨h0, h1, h32, hl, -⟩ := h
  exact ⟨h0, by omega, by omega, secs, body⟩

end

end Sys2Proof.Proofs
end

section
/-! The Route Inspector (R45 to R51): which check of the map and of the holds stops a route, and at which entry. -/

namespace Sys2Proof.Proofs

open Sys2Proof Sys2Proof.Machine Sys2Proof.Laws

/-! ### Check 6: each entry joins the next -/

section

variable {s : State}

/-- The entry at an index joins the next one, where there is one (R48). -/
def Joined (s : State) (es : List RouteEntry) (i : Nat) : Prop :=
  ∀ a b, es[i]? = some a → es[i + 1]? = some b → s.joins a b = true

theorem joined_singleton (e : RouteEntry) (i : Nat) : Joined s [e] i := fun _ _ _ h => by simp at h

theorem joined_zero {a b : RouteEntry} {rest : List RouteEntry} : Joined s (a :: b :: rest) 0 ↔ s.joins a b = true := by
  simp [Joined]

theorem joined_succ {a : RouteEntry} {rest : List RouteEntry} {i : Nat} :
    Joined s (a :: rest) (i + 1) ↔ Joined s rest i := by
  simp [Joined]

/-- Loaded entries join where the exit node of the first is the entry node of the second (R2). -/
theorem joins_iff {a b : RouteEntry} (ha : s.loaded a.sec = true) (hb : s.loaded b.sec = true) :
    s.joins a b = true ↔ ∀ x y, lookup s.sections a.sec = some x → lookup s.sections b.sec = some y →
      x.data.exitNode a.direction = y.data.entryNode b.direction := by
  obtain ⟨x, hx⟩ := exists_entry_of_loaded ha
  obtain ⟨y, hy⟩ := exists_entry_of_loaded hb
  simp [State.joins, hx, hy]

theorem firstBreak_eq_none_iff {es : List RouteEntry} : ∀ {k : Nat}, firstBreak s k es = none ↔ ∀ i, Joined s es i := by
  induction es with
  | nil => intro k; simp [firstBreak, Joined]
  | cons a rest ih =>
    intro k
    cases rest with
    | nil => simp [firstBreak, joined_singleton]
    | cons b rest =>
      rw [firstBreak, ← Nat.and_forall_add_one]
      simp only [joined_zero, joined_succ]
      split
      · rename_i h; rw [ih]; exact (and_iff_right h).symm
      · rename_i h; exact iff_of_false nofun fun all => h all.1

theorem firstBreak_eq_some {es : List RouteEntry} : ∀ {k i : Nat}, ¬Joined s es i → (∀ j, j < i → Joined s es j) →
    firstBreak s k es = some (k + i + 1) := by
  induction es with
  | nil => intro k i hi; exact absurd (fun a b h => nomatch h) hi
  | cons a rest ih =>
    intro k i hi before
    cases rest with
    | nil => exact absurd (joined_singleton a i) hi
    | cons b rest =>
      rw [firstBreak]
      cases i with
      | zero => rw [if_neg fun h => hi (joined_zero.mpr h), Nat.add_zero]
      | succ i =>
        rw [if_pos (joined_zero.mp (before 0 (Nat.succ_pos i))), ih (i := i) (fun h => hi (joined_succ.mpr h))
          (fun j hj => joined_succ.mp (before (j + 1) (Nat.succ_lt_succ hj)))]
        congr 1
        omega

end

/-! ### Check 7: no section twice -/

section

variable {seen : List Nat} {e : RouteEntry} {es : List RouteEntry} {i : Nat}

/-- The section of the entry at an index is among those seen before, or appeared at a lower index (R49). -/
def Repeats (seen : List Nat) (es : List RouteEntry) (i : Nat) : Prop :=
  ∃ e, es[i]? = some e ∧ (e.sec ∈ seen ∨ ∃ j, j < i ∧ (es[j]?).map (fun e => e.sec) = some e.sec)

theorem repeats_zero : Repeats seen (e :: es) 0 ↔ e.sec ∈ seen := by
  simp [Repeats]

theorem repeats_succ : Repeats seen (e :: es) (i + 1) ↔ Repeats (e.sec :: seen) es i := by
  have earlier (sec : Nat) : (∃ j, j < i + 1 ∧ ((e :: es)[j]?).map (fun e => e.sec) = some sec) ↔
      e.sec = sec ∨ ∃ j, j < i ∧ (es[j]?).map (fun e => e.sec) = some sec := by
    rw [Nat.exists_lt_succ_left]
    simp
  simp only [Repeats, List.getElem?_cons_succ, earlier, List.mem_cons, eq_comm (a := e.sec), or_left_comm, or_assoc]

theorem repeats_nil_iff (hi : i < es.length) :
    Repeats [] es i ↔ ∃ j, j < i ∧ (es[j]?).map (fun e => e.sec) = (es[i]?).map (fun e => e.sec) := by
  simp [Repeats, List.getElem?_eq_getElem hi]

theorem firstRepeat_eq_none_iff : ∀ {k : Nat} {seen : List Nat}, firstRepeat k seen es = none ↔
    (es.map (fun e => e.sec)).Nodup ∧ ∀ e ∈ es, e.sec ∉ seen := by
  induction es with
  | nil => intro k seen; simp [firstRepeat]
  | cons e es ih =>
    intro k seen
    rw [firstRepeat, List.map_cons, List.nodup_cons, List.forall_mem_cons]
    split
    · rename_i h
      exact iff_of_false nofun fun free => free.2.1 (List.contains_iff_mem.mp h)
    · rename_i h
      have fresh : e.sec ∉ seen := fun hm => h (List.contains_iff_mem.mpr hm)
      have apart : (∀ f ∈ es, f.sec ∉ e.sec :: seen) ↔
          e.sec ∉ es.map (fun f => f.sec) ∧ ∀ f ∈ es, f.sec ∉ seen := by
        simp only [List.mem_cons, not_or, List.mem_map, not_exists, not_and, ← forall₂_and]
      rw [ih, apart, and_iff_right fresh, and_left_comm, and_assoc]

theorem firstRepeat_eq_some : ∀ {k i : Nat} {seen : List Nat}, Repeats seen es i →
    (∀ j, j < i → ¬Repeats seen es j) → firstRepeat k seen es = some (k + i) := by
  induction es with
  | nil => rintro k i seen ⟨e, h, -⟩; cases h
  | cons e es ih =>
    intro k i seen hi before
    rw [firstRepeat]
    cases i with
    | zero => rw [if_pos (List.contains_iff_mem.mpr (repeats_zero.mp hi)), Nat.add_zero]
    | succ i =>
      rw [if_neg fun h => before 0 (Nat.succ_pos i) (repeats_zero.mpr (List.contains_iff_mem.mp h)),
        ih (i := i) (repeats_succ.mp hi)
          (fun j hj h => before (j + 1) (Nat.succ_lt_succ hj) (repeats_succ.mpr h))]
      congr 1
      omega

end

/-! ### Checks 4 to 7, in order -/

section

variable {s : State} {es : List RouteEntry} {e : RouteEntry} {i : Nat}

/-- A search for the first entry that fails a test stops at the entry before which all pass. -/
theorem findIdx?_not_eq_some {p : RouteEntry → Bool} (he : es[i]? = some e) (fails : p e = false)
    (before : ∀ j f, j < i → es[j]? = some f → p f = true) : es.findIdx? (fun f => !p f) = some i := by
  obtain ⟨hi, rfl⟩ := List.getElem?_eq_some_iff.mp he
  refine List.findIdx?_eq_some_iff_getElem.mpr ⟨hi, by simp [fails], fun j hj => ?_⟩
  simp [before j _ hj (List.getElem?_eq_getElem (hj.trans hi))]

theorem findIdx?_not_eq_none_iff {p : RouteEntry → Bool} :
    es.findIdx? (fun f => !p f) = none ↔ ∀ f ∈ es, p f = true := by
  simp [List.findIdx?_eq_none_iff]

theorem checkMap_noSection (he : es[i]? = some e) (fails : s.loaded e.sec = false)
    (before : ∀ j f, j < i → es[j]? = some f → s.loaded f.sec = true) : checkMap s es = some (.noSection, i) := by
  unfold checkMap
  rw [findIdx?_not_eq_some (p := fun f => s.loaded f.sec) he fails before]

theorem checkMap_badDirection (loaded : ∀ f ∈ es, s.loaded f.sec = true) (he : es[i]? = some e)
    (fails : s.permits e = false) (before : ∀ j f, j < i → es[j]? = some f → s.permits f = true) :
    checkMap s es = some (.badDirection, i) := by
  unfold checkMap
  rw [findIdx?_not_eq_none_iff (p := fun f => s.loaded f.sec) |>.mpr loaded, findIdx?_not_eq_some he fails before]

/-- Past checks 4 and 5 the route is refused by check 6, else by check 7. -/
theorem checkMap_of_permitted (loaded : ∀ f ∈ es, s.loaded f.sec = true) (allowed : ∀ f ∈ es, s.permits f = true) :
    checkMap s es =
      ((firstBreak s 0 es).map (fun i => (RefusalReason.discontinuous, i))).or
        ((firstRepeat 0 [] es).map (fun i => (RefusalReason.duplicate, i))) := by
  unfold checkMap
  rw [findIdx?_not_eq_none_iff (p := fun f => s.loaded f.sec) |>.mpr loaded, findIdx?_not_eq_none_iff.mpr allowed]
  cases firstBreak s 0 es <;> rfl

theorem checkMap_discontinuous (loaded : ∀ f ∈ es, s.loaded f.sec = true) (allowed : ∀ f ∈ es, s.permits f = true)
    (breaks : ¬Joined s es i) (before : ∀ j, j < i → Joined s es j) :
    checkMap s es = some (.discontinuous, i + 1) := by
  rw [checkMap_of_permitted loaded allowed, firstBreak_eq_some breaks before, Nat.zero_add, Option.map_some,
    Option.some_or]

theorem checkMap_duplicate (loaded : ∀ f ∈ es, s.loaded f.sec = true) (allowed : ∀ f ∈ es, s.permits f = true)
    (joined : ∀ j, Joined s es j) (repeats : Repeats [] es i) (before : ∀ j, j < i → ¬Repeats [] es j) :
    checkMap s es = some (.duplicate, i) := by
  rw [checkMap_of_permitted loaded allowed, firstBreak_eq_none_iff.mpr joined, firstRepeat_eq_some repeats before,
    Nat.zero_add, Option.map_none, Option.none_or, Option.map_some]

/-- A route lies on the map: loaded, allowed, joined, and no section twice (checks 4 to 7). -/
structure OnMap (s : State) (es : List RouteEntry) : Prop where
  loaded : ∀ e ∈ es, s.loaded e.sec = true
  allowed : ∀ e ∈ es, s.permits e = true
  joined : ∀ i, Joined s es i
  once : (es.map (fun e => e.sec)).Nodup

theorem checkMap_eq_none_iff : checkMap s es = none ↔ OnMap s es := by
  constructor
  · intro h
    unfold checkMap at h
    split at h
    · cases h
    · rename_i loaded
      split at h
      · cases h
      · rename_i allowed
        split at h
        · cases h
        · rename_i joined
          obtain ⟨once, -⟩ := firstRepeat_eq_none_iff.mp (Option.map_eq_none_iff.mp h)
          exact ⟨findIdx?_not_eq_none_iff.mp loaded, findIdx?_not_eq_none_iff.mp allowed,
            firstBreak_eq_none_iff.mp joined, once⟩
  · rintro ⟨loaded, allowed, joined, once⟩
    rw [checkMap_of_permitted loaded allowed, firstBreak_eq_none_iff.mpr joined,
      firstRepeat_eq_none_iff.mpr ⟨once, fun e _ => List.not_mem_nil⟩, Option.map_none, Option.map_none, Option.or_none]

end

/-! ### Checks 8 to 10, in order -/

section

variable {s : State} {slot : Nat} {es : List RouteEntry} {e : RouteEntry}

theorem refused_else_eq_none_iff {α : Type} {c : Prop} [Decidable c] {r : α} {x : Option α} :
    (if c then some r else x) = none ↔ ¬c ∧ x = none := by
  by_cases h : c <;> simp [h]

theorem soleHolder_iff {sec : Nat} : s.soleHolder slot sec = true ↔ ∀ h ∈ s.holders sec, h.slot = slot := by
  simp [State.soleHolder]

theorem checkHolds_cons :
    checkHolds s slot (e :: es) =
      if e.sec ≠ (s.carrier slot).headSection then some (.notAtStart, 0)
      else if (s.carrier slot).limit ≠ (s.carrier slot).head ∨ (s.carrier slot).cutback ≠ none then some (.aheadHeld, 0)
      else if (s.hold (s.carrier slot).headSection).direction ≠ some e.direction ∧
          ¬∀ h ∈ s.holders (s.carrier slot).headSection, h.slot = slot then some (.directionHeld, 0)
      else none := by
  simp only [← soleHolder_iff]
  simp [checkHolds, Option.isSome_iff_ne_none]

theorem checkHolds_eq_none_iff :
    checkHolds s slot es = none ↔ (es.head?).map (fun e => e.sec) = some (s.carrier slot).headSection ∧
      ((s.carrier slot).limit = (s.carrier slot).head ∧ (s.carrier slot).cutback = none) ∧
      ((es.head?).map (fun e => e.direction) = (s.hold (s.carrier slot).headSection).direction ∨
        ∀ h ∈ s.holders (s.carrier slot).headSection, h.slot = slot) := by
  cases es with
  | nil => exact iff_of_false nofun nofun
  | cons e es =>
    rw [checkHolds_cons]
    simp only [refused_else_eq_none_iff, List.head?_cons, Option.map_some, Option.some.injEq, not_or, not_and, not_not,
      and_true, ne_eq, eq_comm (b := some e.direction), ← or_iff_not_imp_left]

end

end Sys2Proof.Proofs
end

section
/-! ROUTE as a whole (R44 to R54): the ten checks in their order, and what an order does that passes or is refused. -/

namespace Sys2Proof.Proofs

open Sys2Proof Sys2Proof.Machine Sys2Proof.Laws

/-! ### The ten checks, in order -/

section

variable {o : RouteOrder} {s : State} {slot : Nat} {es : List RouteEntry}

theorem inspect_wrongState (h : s.partState = .unconfigured) : inspect o s = .inl (.wrongState, 0) := by
  rw [inspect, if_pos h]

theorem inspect_notAdmitted (hp : s.partState ≠ .unconfigured)
    (h : ∀ slot, s.slotOf o.destination = some slot → (s.carrier slot).believed = false) :
    inspect o s = .inl (.notAdmitted, 0) := by
  rw [inspect, if_neg hp]
  cases hs : s.slotOf o.destination with
  | none => rfl
  | some slot => simp [h slot hs]

section

variable (hp : s.partState ≠ .unconfigured) (hs : s.slotOf o.destination = some slot)
  (hb : (s.carrier slot).believed = true)

include hp hs hb

theorem inspect_badFormat (h : orderEntries o = none) : inspect o s = .inl (.badFormat, 0) := by
  rw [inspect, if_neg hp, hs]
  simp [hb, h]

theorem inspect_offMap (hes : orderEntries o = some es) {r : RefusalReason × Nat} (h : checkMap s es = some r) :
    inspect o s = .inl r := by
  rw [inspect, if_neg hp, hs]
  simp [hb, hes, h]

theorem inspect_heldOff (hes : orderEntries o = some es) (map : OnMap s es) {r : RefusalReason × Nat}
    (h : checkHolds s slot es = some r) : inspect o s = .inl r := by
  rw [inspect, if_neg hp, hs]
  simp [hb, hes, checkMap_eq_none_iff.mpr map, h]

end

theorem inspect_eq_inr_iff :
    inspect o s = .inr (slot, es) ↔ s.partState ≠ .unconfigured ∧ s.slotOf o.destination = some slot ∧
      (s.carrier slot).believed = true ∧ Spells o es ∧ OnMap s es ∧ checkHolds s slot es = none := by
  rw [← orderEntries_eq_some_iff, ← checkMap_eq_none_iff]
  constructor
  · intro h
    unfold inspect at h
    split at h
    · cases h
    · rename_i hp
      split at h
      · cases h
      · rename_i k hs
        split at h
        · cases h
        · rename_i hb
          split at h
          · cases h
          · rename_i fs hes
            split at h
            · cases h
            · rename_i map
              split at h
              · cases h
              · rename_i holds
                cases h
                exact ⟨hp, hs, by simpa using hb, hes, map, holds⟩
  · rintro ⟨hp, hs, hb, hes, map, holds⟩
    rw [inspect, if_neg hp, hs]
    simp [hb, hes, map, holds]

end

/-- Loaded entries join one after another where each exit node is the next entry node (R48). -/
theorem joined_iff {s : State} {es : List RouteEntry} (loaded : ∀ e ∈ es, s.loaded e.sec = true) {i : Nat} :
    Joined s es i ↔ ∀ a b x y, es[i]? = some a → es[i + 1]? = some b → lookup s.sections a.sec = some x →
      lookup s.sections b.sec = some y → x.data.exitNode a.direction = y.data.entryNode b.direction := by
  have joins {a b : RouteEntry} (ha : es[i]? = some a) (hb : es[i + 1]? = some b) :=
    joins_iff (loaded a (List.mem_of_getElem? ha)) (loaded b (List.mem_of_getElem? hb))
  constructor
  · intro h a b x y ha hb
    exact (joins ha hb).mp (h a b ha hb) x y
  · intro h a b ha hb
    exact (joins ha hb).mpr fun x y => h a b x y ha hb

/-- Settles O32: the ten checks pass together, each by what it says of the route. -/
theorem routeInspectionAccepts : Obligations.RouteInspectionAccepts := by
  intro o s slot es c
  rw [inspect_eq_inr_iff, checkHolds_eq_none_iff]
  constructor
  · rintro ⟨hp, hs, hb, spells, ⟨loaded, allowed, joined, once⟩, holds⟩
    exact ⟨hp, hs, hb, spells, loaded, allowed, fun i => (joined_iff loaded).mp (joined i), once, holds⟩
  · rintro ⟨hp, hs, hb, spells, loaded, allowed, joined, once, holds⟩
    exact ⟨hp, hs, hb, spells, ⟨loaded, allowed, fun i => (joined_iff loaded).mpr (joined i), once⟩, holds⟩

/-- Settles O33: each check's refusal, where the lemma of every earlier check says that it passes. -/
theorem routeChecksAreTakenInOrder : Obligations.RouteChecksAreTakenInOrder := by
  intro o s n ill
  refine ⟨inspect_wrongState, inspect_notAdmitted, fun slot hp hs hb => ?_⟩
  intro c
  refine ⟨fun h => inspect_badFormat hp hs hb (orderEntries_eq_none_iff.mpr h), ?_⟩
  intro es formed body secs joined repeated loaded allowed onMap atStart
  have spells : Spells o es := spells_of_wellFormed formed body secs
  have hes := orderEntries_eq_some_iff.mpr spells
  have repeats {i : Nat} (hi : i < es.length) : Repeats [] es i ↔ repeated i := repeats_nil_iff hi
  have offMap {r} (h : checkMap s es = some r) := inspect_offMap hp hs hb hes h
  have heldOff {r} (map : onMap) (h : checkHolds s slot es = some r) :=
    inspect_heldOff hp hs hb hes ⟨map.1, map.2.1, map.2.2.1, map.2.2.2⟩ h
  obtain ⟨e, rest, rfl⟩ := List.exists_cons_of_length_pos spells.2.1
  refine ⟨fun i f hf fails before => offMap (checkMap_noSection hf fails before),
    fun i f hl hf fails before => offMap (checkMap_badDirection hl hf fails before),
    fun i hl ha breaks before => offMap (checkMap_discontinuous hl ha breaks before),
    fun i hl ha hj hi hr before => offMap (checkMap_duplicate hl ha hj ((repeats hi).mpr hr)
      fun j hji h => before j hji ((repeats (hji.trans hi)).mp h)),
    fun map away => heldOff map ?_, fun map start ahead => heldOff map ?_,
    fun map start limit cutback other shared => heldOff map ?_⟩
  · rw [checkHolds_cons, if_pos fun h => away (congrArg some h)]
  · rw [checkHolds_cons, if_neg (not_not.mpr (Option.some.inj start)), if_pos ahead]
  · obtain ⟨h, hm, hne⟩ := shared
    have clear : ¬(c.limit ≠ c.head ∨ c.cutback ≠ none) := not_or.mpr ⟨not_not.mpr limit, not_not.mpr cutback⟩
    rw [checkHolds_cons, if_neg (not_not.mpr (Option.some.inj start)), if_neg clear,
      if_pos ⟨fun h => other h.symm, fun all => hne (all h hm)⟩]

/-! ### An accepted order is stored, a refused one dropped -/

theorem firstBreak_congr {s t : State} (h : ∀ a b, t.joins a b = s.joins a b) (k : Nat) (es : List RouteEntry) :
    firstBreak t k es = firstBreak s k es := by
  induction es generalizing k with
  | nil => rfl
  | cons a rest ih =>
    cases rest with
    | nil => rfl
    | cons b rest => simp only [firstBreak, h, ih]

/-- The Route Inspector does not read the ports. -/
theorem inspect_dropFront (p : PortId) (o : RouteOrder) (s : State) : inspect o (dropFront p s) = inspect o s := by
  have joins (a b : RouteEntry) : (dropFront p s).joins a b = s.joins a b := by cases p <;> rfl
  have permits (e : RouteEntry) : (dropFront p s).permits e = s.permits e := by cases p <;> rfl
  have map (es : List RouteEntry) : checkMap (dropFront p s) es = checkMap s es := by
    simp only [checkMap, dropFront_loaded, permits, firstBreak_congr joins]
  unfold inspect
  simp only [map]
  cases p <;> rfl

theorem admitted_of_believed {s : State} {n : Nat} (h : (s.carrier n).believed = true) : s.admitted n = true := by
  cases ha : s.admitted n with
  | true => rfl
  | false => rw [carrier_of_not_admitted ha] at h; cases h

theorem exec_route {o : RouteOrder} {s : State} (h : Ready .d (routeFrame o) s) :
    exec (.route o) s = .next (handleRoute o (dropFront .d s)) :=
  congrArg _ (takeFrame_ready s h _)

theorem holders_ne_nil_of_holdsSection {s : State} {n sec : Nat} (h : s.holdsSection n sec = true) :
    (s.hold sec).holders ≠ [] := by
  intro he
  simp [State.holdsSection, State.holders, he] at h

theorem setDirection_carriers (sec : Nat) (d : Direction) (s : State) :
    (setDirection sec d s).carriers = s.carriers := by
  simp [setDirection]

/-- The context of a carrier whose wait, if any, has ended (R100). -/
theorem carrier_endWait {n : Nat} {s : State} (ha : s.admitted n = true) :
    (endWait n s).carrier n =
      { s.carrier n with
        passedOver := if (s.waitOf n).isSome then 0 else (s.carrier n).passedOver
        effectivePriority :=
          if (s.waitOf n).isSome then (s.carrier n).params.priority else (s.carrier n).effectivePriority } := by
  by_cases hw : (s.waitOf n).isSome = true
  · rw [carrier_endWait_same hw ha, if_pos hw, if_pos hw]
  · rw [if_neg hw, if_neg hw]
    unfold endWait
    rw [Option.not_isSome_iff_eq_none.mp hw]

section

variable {s : State} {slot : Nat} (number : Byte) (e : RouteEntry) (es : List RouteEntry)

theorem storeRoute_cons :
    storeRoute slot number (e :: es) s =
      (setDirection ((endWait slot s).carrier slot).headSection e.direction (endWait slot s)).modifyCarrier slot
        (fun c => { c with
          routeNumber := number, route := e :: es, head := 0, limit := 0, holdIdle := 0, state := .active }) := rfl

theorem carrier_storeRoute_same (ha : s.admitted slot = true) :
    (storeRoute slot number (e :: es) s).carrier slot =
      { s.carrier slot with
        routeNumber := number
        route := e :: es
        head := 0
        limit := 0
        holdIdle := 0
        state := .active
        passedOver := if (s.waitOf slot).isSome then 0 else (s.carrier slot).passedOver
        effectivePriority :=
          if (s.waitOf slot).isSome then (s.carrier slot).params.priority
          else (s.carrier slot).effectivePriority } := by
  have carriers := setDirection_carriers ((endWait slot s).carrier slot).headSection e.direction (endWait slot s)
  have admitted := (admitted_eq_of_carriers carriers slot).trans ((admitted_endWait slot slot s).trans ha)
  rw [storeRoute_cons, carrier_modifyCarrier, if_pos ⟨rfl, admitted⟩, carrier_eq_of_carriers carriers,
    carrier_endWait ha]

theorem carrier_storeRoute_other {k : Nat} (h : k ≠ slot) :
    (storeRoute slot number (e :: es) s).carrier k = s.carrier k := by
  rw [storeRoute_cons, carrier_modifyCarrier, if_neg fun x => h x.1,
    carrier_eq_of_carriers (setDirection_carriers _ _ _), carrier_endWait_other s h]

/-- The Hold Table changes by the head section's direction alone (R52). -/
theorem hold_storeRoute (ha : s.admitted slot = true) (sec : Nat) :
    (storeRoute slot number (e :: es) s).hold sec =
      (setDirection (s.carrier slot).headSection e.direction s).hold sec := by
  have hold (k : Nat) : (endWait slot s).hold k = s.hold k := by simp only [State.hold, (endWait_frame slot s).1]
  rw [storeRoute_cons, hold_modifyCarrier, hold_setDirection, hold_setDirection, carrier_endWait ha, hold, hold]

theorem waits_storeRoute :
    (storeRoute slot number (e :: es) s).waits = s.waits.filter (fun w => w.slot ≠ slot) := by
  rw [storeRoute_cons, modifyCarrier_waits, ← waits_endWait, setDirection, setHold_waits]

theorem storeRoute_frame :
    (storeRoute slot number (e :: es) s).occupancy = s.occupancy ∧
      (storeRoute slot number (e :: es) s).portC = s.portC := by
  obtain ⟨-, occupancy, portC⟩ := endWait_frame slot s
  rw [storeRoute_cons, modifyCarrier_occupancy, modifyCarrier_portC, setDirection, setHold_occupancy, setHold_portC]
  exact ⟨occupancy, portC⟩

theorem storeRoute_trafficOnly : TrafficOnly s (storeRoute slot number (e :: es) s) := by
  rw [storeRoute_cons]
  exact TrafficOnly.trans (TrafficOnly.trans (endWait_trafficOnly s _) (setDirection_trafficOnly _ _ _))
    (modifyCarrier_trafficOnly _ _ _)

end

/-- Settles O34: the stored state is `storeRoute`, read field by field; a refusal is its notice. -/
theorem routeIsStoredOrRefused : Obligations.RouteIsStoredOrRefused := by
  intro o s ready
  refine ⟨fun slot es first accepted head held => ?_, fun r i refused => ?_⟩
  · intro c
    obtain ⟨-, -, believed, -⟩ := inspect_eq_inr_iff.mp accepted
    have admitted : (dropFront .d s).admitted slot = true :=
      (admitted_eq_of_carriers (dropFront_carriers s .d) slot).trans (admitted_of_believed believed)
    obtain ⟨rest, rfl⟩ := List.head?_eq_some_iff.mp head
    obtain ⟨occupancy, portC⟩ := storeRoute_frame (s := dropFront .d s) (slot := slot) (byteAt o.body 0) first rest
    have hold (sec : Nat) := hold_storeRoute (byteAt o.body 0) first rest admitted sec
    simp only [hold_setDirection] at hold
    refine ⟨storeRoute slot (byteAt o.body 0) (first :: rest) (dropFront .d s), ?_,
      carrier_storeRoute_same _ _ _ admitted, waits_storeRoute _ _ _, ?_, fun sec h => ?_, occupancy,
      fun k h => carrier_storeRoute_other _ _ _ h, portC,
      TrafficOnly.trans (PortsOnly.trafficOnly (dropFront_portsOnly s .d)) (storeRoute_trafficOnly _ _ _)⟩
    · rw [exec_route ready, handleRoute, inspect_dropFront, accepted]
      rfl
    · exact (hold _).trans ((if_pos rfl).trans (if_neg (holders_ne_nil_of_holdsSection held)))
    · exact (hold sec).trans (if_neg h)
  · rw [exec_route ready, handleRoute, inspect_dropFront, refused]
    rfl

end Sys2Proof.Proofs
end

section
/-! What the Passage Engine and the Arbiter do for one carrier (R76 to R78, R97 to R107): nothing to the context, the
holds and the wait of any other, and nothing against the law of R59. -/

namespace Sys2Proof.Proofs

open Sys2Proof Sys2Proof.Machine Sys2Proof.Laws

/-! ### Relations that compose -/

/-- A reflexive and transitive relation between states. -/
structure Composes (R : State → State → Prop) : Prop where
  refl : ∀ s, R s s
  trans : ∀ {s t u}, R s t → R t u → R s u

theorem Composes.foldl {α : Type} {R : State → State → Prop} (hR : Composes R) {f : State → α → State}
    (h : ∀ s a, R s (f s a)) (l : List α) (s : State) : R s (l.foldl f s) := by
  induction l generalizing s with
  | nil => exact hR.refl s
  | cons a l ih => exact hR.trans (h s a) (ih _)

/-! ### Holder lists and hold states -/

section

variable (s : State) (slot n sec k : Nat)

theorem holders_setHold (h : HoldRecord) :
    (s.setHold n h).holders k = if k = n then h.holders else s.holders k := by
  unfold State.holders
  rw [hold_setHold]
  split
  · split
    · rename_i h0; rw [h0]; rfl
    · rfl
  · rfl

theorem holders_setDirection (d : Direction) : (setDirection sec d s).holders k = s.holders k := by
  rw [setDirection, holders_setHold]
  split
  · rename_i hk; rw [hk]; rfl
  · rfl

theorem holders_addHolder (e : RouteEntry) :
    (addHolder slot e s).holders k =
      if k = e.sec then s.holders e.sec ++ [⟨slot, .active⟩] else s.holders k := by
  unfold State.holders
  rw [hold_addHolder]
  split <;> rfl

theorem holdStateOf_of_holders {t : State} (h : t.holders k = s.holders k) : t.holdStateOf n k = s.holdStateOf n k := by
  simp only [State.holdStateOf, h]

/-- A carrier holds a section exactly where its hold there has a state. -/
theorem holdsSection_eq_isSome : s.holdsSection n k = (s.holdStateOf n k).isSome := by
  simp only [State.holdsSection, State.holdStateOf, Option.isSome_map, List.isSome_find?]

theorem holdStateOf_addHolder (e : RouteEntry) :
    (addHolder slot e s).holdStateOf n k =
      if n = slot ∧ k = e.sec ∧ s.holdStateOf slot e.sec = none then some .active else s.holdStateOf n k := by
  unfold State.holdStateOf
  rw [holders_addHolder]
  by_cases hk : k = e.sec
  · subst hk
    rw [if_pos rfl, List.find?_append]
    by_cases hn : n = slot
    · subst hn
      cases (s.holders e.sec).find? (fun h => h.slot = n) <;> simp
    · have hs : ¬slot = n := fun h => hn h.symm
      simp [hn, hs]
  · rw [if_neg hk, if_neg fun h => hk h.2.1]

end

/-! ### A carrier that is left alone -/

/-- A carrier's context, the states of its holds and its wait are as they were. -/
structure Untouched (n : Nat) (s t : State) : Prop where
  context : lookup t.carriers n = lookup s.carriers n
  holds : ∀ sec, t.holdStateOf n sec = s.holdStateOf n sec
  wait : t.waitOf n = s.waitOf n

theorem isFrame_untouched (n : Nat) : IsFrame (Untouched n) where
  ports h := ⟨by rw [h.traffic.carriers], fun sec => holdStateOf_of_holds h.traffic.holds n sec,
    by simp only [State.waitOf, h.traffic.waits]⟩
  trans h k := ⟨k.context.trans h.context, fun sec => (k.holds sec).trans (h.holds sec), k.wait.trans h.wait⟩

section

variable {n : Nat} {s t : State}

theorem Untouched.refl (n : Nat) (s : State) : Untouched n s s := (isFrame_untouched n).refl s

theorem Untouched.carrier (h : Untouched n s t) : t.carrier n = s.carrier n := by
  simp only [State.carrier, h.context]

theorem Untouched.admitted (h : Untouched n s t) : t.admitted n = s.admitted n := by
  simp only [State.admitted, h.context]

theorem Untouched.holdsSection (h : Untouched n s t) (sec : Nat) : t.holdsSection n sec = s.holdsSection n sec := by
  rw [holdsSection_eq_isSome, holdsSection_eq_isSome, h.holds]

theorem lookup_modifyCarrier_other {slot : Nat} (f : Carrier → Carrier) (h : n ≠ slot) :
    lookup (s.modifyCarrier slot f).carriers n = lookup s.carriers n := by
  unfold State.modifyCarrier
  split
  · exact lookup_insertAt_other _ _ h
  · rfl

theorem modifyCarrier_untouched {slot : Nat} (f : Carrier → Carrier) (h : n ≠ slot) :
    Untouched n s (s.modifyCarrier slot f) where
  context := lookup_modifyCarrier_other f h
  holds sec := holdStateOf_of_holds (modifyCarrier_holds _ _ _) n sec
  wait := by simp only [State.waitOf, modifyCarrier_waits]

end

/-! ### The law of R59, one record at a time -/

/-- A hold record that R59 allows on a section of this capacity. -/
def Fits (h : HoldRecord) (capacity : Nat) : Prop :=
  h.holders.length ≤ capacity ∧ (h.holders = [] ↔ h.direction = none)

theorem holdsLawful_iff {s : State} : s.HoldsLawful ↔ ∀ sec, Fits (s.hold sec) (s.capacityOf sec) := Iff.rfl

theorem fits_free (capacity : Nat) : Fits .free capacity := ⟨Nat.zero_le _, iff_of_true rfl rfl⟩

theorem fits_of_direction {h : HoldRecord} {capacity : Nat} {d : Direction} (hl : h.holders.length ≤ capacity)
    (hn : h.holders ≠ []) (hd : h.direction = some d) : Fits h capacity :=
  ⟨hl, iff_of_false hn (by simp [hd])⟩

/-- The relation "keeps the Hold Table lawful" (R59). -/
def KeepsHolds (s t : State) : Prop := s.HoldsLawful → t.HoldsLawful

section

variable {s t : State}

theorem keepsHolds_of_reads (hh : ∀ sec, t.hold sec = s.hold sec) (hc : ∀ sec, t.capacityOf sec = s.capacityOf sec) :
    KeepsHolds s t := fun h => holdsLawful_iff.mpr fun sec => by rw [hh, hc]; exact h sec

theorem capacityOf_of_sections (h : t.sections = s.sections) (sec : Nat) : t.capacityOf sec = s.capacityOf sec := by
  simp only [State.capacityOf, h]

theorem hold_of_holds (h : t.holds = s.holds) (sec : Nat) : t.hold sec = s.hold sec := by
  simp only [State.hold, h]

theorem keepsHolds_of_eq (hh : t.holds = s.holds) (hs : t.sections = s.sections) : KeepsHolds s t :=
  keepsHolds_of_reads (hold_of_holds hh) (capacityOf_of_sections hs)

theorem isFrame_keepsHolds : IsFrame KeepsHolds where
  ports h := keepsHolds_of_eq h.traffic.holds h.map.sections
  trans h k := k ∘ h

theorem KeepsHolds.refl (s : State) : KeepsHolds s s := id

/-- A record that fits, wherever the table was lawful, is put in. -/
theorem setHold_keepsHolds {sec : Nat} {h : HoldRecord}
    (hf : s.HoldsLawful → h.holders ≠ [] → h.holders.length ≤ s.capacityOf sec ∧ h.direction ≠ none) :
    KeepsHolds s (s.setHold sec h) := by
  intro hs
  refine holdsLawful_iff.mpr fun k => ?_
  rw [hold_setHold, capacityOf_of_sections (setHold_sections s sec h)]
  split
  · rename_i hk
    subst hk
    split
    · exact fits_free _
    · rename_i hn
      obtain ⟨hl, hd⟩ := hf hs hn
      exact ⟨hl, iff_of_false hn hd⟩
  · exact hs k

theorem setDirection_keepsHolds (s : State) (sec : Nat) (d : Direction) : KeepsHolds s (setDirection sec d s) :=
  setHold_keepsHolds fun hs _ => ⟨(hs sec).1, Option.some_ne_none d⟩

theorem setHoldState_keepsHolds (s : State) (slot sec : Nat) (st : HoldState) :
    KeepsHolds s (setHoldState slot sec st s) :=
  setHold_keepsHolds fun hs hn => by
    rw [List.length_map]
    exact ⟨(hs sec).1, fun hd => hn (List.map_eq_nil_iff.mpr ((hs sec).2.mpr hd))⟩

theorem addHolder_keepsHolds {slot : Nat} {e : RouteEntry} (h : (s.holders e.sec).length < s.capacityOf e.sec) :
    KeepsHolds s (addHolder slot e s) := by
  intro hs
  refine holdsLawful_iff.mpr fun k => ?_
  rw [hold_addHolder, capacityOf_of_sections (addHolder_trafficOnly s slot e).map.sections]
  split
  · rename_i hk
    subst hk
    exact fits_of_direction (by simpa [State.holders] using h) (by simp) rfl
  · exact hs k

theorem removeHolder_keepsHolds (s : State) (slot sec : Nat) : KeepsHolds s (removeHolder slot sec s).1 := by
  have left : KeepsHolds s (s.setHold sec
      ⟨(s.hold sec).holders.filter (fun x => x.slot ≠ slot), (s.hold sec).direction⟩) :=
    setHold_keepsHolds fun hs hn =>
      ⟨(List.length_filter_le _ _).trans (hs sec).1, fun hd => hn (List.filter_eq_nil_iff.mpr fun _ hx =>
        absurd hx (List.eq_nil_iff_forall_not_mem.mp ((hs sec).2.mpr hd) _))⟩
  unfold removeHolder
  split
  · dsimp only
    split
    · exact isFrame_keepsHolds.trans left (keepsHolds_of_eq (setOccupied_holds _ _ _) (setOccupied_sections _ _ _))
    · exact left
  · exact KeepsHolds.refl s

end

/-! ### Frames offered to Port D -/

/-- Frames have joined the outbound queue of Port D, none of them a NOTICE PROGRESS, and none has left (R159). -/
def NoProgress (s t : State) : Prop :=
  ∃ l, t.portD.outbound = s.portD.outbound ++ l ∧ ∀ f ∈ l, f.body.head? ≠ some 0x07

section

variable {s t : State}

theorem noProgress_of_eq (h : t.portD = s.portD) : NoProgress s t :=
  ⟨[], by rw [h, List.append_nil], List.forall_mem_nil _⟩

theorem composes_noProgress : Composes NoProgress where
  refl _ := noProgress_of_eq rfl
  trans := by
    rintro s t u ⟨l, hl, hf⟩ ⟨m, hm, hg⟩
    refine ⟨l ++ m, by rw [hm, hl, List.append_assoc], fun f h => ?_⟩
    rcases List.mem_append.mp h with h | h
    · exact hf f h
    · exact hg f h

theorem portD_offerOwn (f : Frame) (s : State) :
    (offerOwn .d f s).portD =
      if s.portD.outbound.length < 16 then { s.portD with outbound := s.portD.outbound ++ [f] }
      else { s.portD with flags := s.portD.flags.raise .outOverrun } := by
  by_cases h : s.portD.outbound.length < 16
  · rw [offerOwn_admitted s (p := .d) f h, if_pos h]
    rfl
  · rw [offerOwn_dropped s (p := .d) f (Nat.not_lt.mp h), if_neg h]
    rfl

theorem offerOwn_noProgress {f : Frame} (h : f.body.head? ≠ some 0x07) (s : State) : NoProgress s (offerOwn .d f s) := by
  unfold NoProgress
  rw [portD_offerOwn]
  split
  · exact ⟨[f], rfl, by simpa using h⟩
  · exact ⟨[], (List.append_nil _).symm, List.forall_mem_nil _⟩

theorem notice_noProgress {code : Byte} (h : code ≠ 0x07) (fields : List Byte) (s : State) :
    NoProgress s (notice code fields s) :=
  offerOwn_noProgress (f := ⟨s.params.dispatchStation, s.partStation, kindNotice, 0, code :: fields⟩)
    (by simpa using h) s

end

/-! ### Acting for one carrier -/

/-- What is done for one carrier by the Passage Engine, the Wait List and the Arbiter: no other carrier is touched, none
of its own holds is lost or changes state, those it gains are ACTIVE, the Hold Table stays lawful, and no NOTICE
PROGRESS is composed. -/
structure ActsFor (slot : Nat) (s t : State) : Prop where
  others : ∀ n, n ≠ slot → Untouched n s t
  admitted : t.admitted slot = s.admitted slot
  own : ∀ sec, t.holdStateOf slot sec = s.holdStateOf slot sec ∨
    (s.holdStateOf slot sec = none ∧ t.holdStateOf slot sec = some .active)
  lawful : KeepsHolds s t
  notices : NoProgress s t

theorem composes_actsFor (slot : Nat) : Composes (ActsFor slot) where
  refl s := ⟨fun n _ => Untouched.refl n s, rfl, fun _ => .inl rfl, KeepsHolds.refl s, composes_noProgress.refl s⟩
  trans h k :=
    { others := fun n hn => (isFrame_untouched n).trans (h.others n hn) (k.others n hn)
      admitted := k.admitted.trans h.admitted
      own := fun sec => by
        rcases h.own sec with h | ⟨h, h'⟩ <;> rcases k.own sec with k | ⟨k, k'⟩
        · exact .inl (k.trans h)
        · exact .inr ⟨h ▸ k, k'⟩
        · exact .inr ⟨h, k.trans h'⟩
        · exact .inr ⟨h, k'⟩
      lawful := isFrame_keepsHolds.trans h.lawful k.lawful
      notices := composes_noProgress.trans h.notices k.notices }

section

variable {slot : Nat} {s t : State}

/-- A carrier's holds are not lost by what is done for any carrier. -/
theorem ActsFor.holdsSection (h : ActsFor slot s t) {n sec : Nat} (hs : s.holdsSection n sec = true) :
    t.holdsSection n sec = true := by
  by_cases hn : n = slot
  · subst hn
    rw [holdsSection_eq_isSome] at hs ⊢
    rcases h.own sec with h | ⟨-, h⟩ <;> rw [h]
    · exact hs
    · rfl
  · rw [(h.others n hn).holdsSection, hs]

/-- An act that leaves the Hold Table and Port D, and the contexts and waits of the others. -/
theorem actsFor_of_eq (hh : t.holds = s.holds) (hs : t.sections = s.sections) (hd : NoProgress s t)
    (hc : ∀ n, n ≠ slot → lookup t.carriers n = lookup s.carriers n) (ha : t.admitted slot = s.admitted slot)
    (hw : ∀ n, n ≠ slot → t.waitOf n = s.waitOf n) : ActsFor slot s t where
  others n hn := ⟨hc n hn, fun sec => holdStateOf_of_holds hh n sec, hw n hn⟩
  admitted := ha
  own sec := .inl (holdStateOf_of_holds hh slot sec)
  lawful := keepsHolds_of_eq hh hs
  notices := hd

theorem modifyCarrier_actsFor (slot : Nat) (f : Carrier → Carrier) (s : State) :
    ActsFor slot s (s.modifyCarrier slot f) :=
  actsFor_of_eq (by simp) (by simp) (noProgress_of_eq (by simp)) (fun _ hn => lookup_modifyCarrier_other f hn)
    (admitted_modifyCarrier s slot slot f) (fun _ _ => by simp only [State.waitOf, modifyCarrier_waits])

/-- A change of the wait list that leaves the entries of the other carriers. -/
theorem setWaits_actsFor {w : List WaitEntry}
    (h : ∀ n, n ≠ slot → w.find? (fun w => w.slot = n) = s.waitOf n) : ActsFor slot s { s with waits := w } :=
  actsFor_of_eq rfl rfl (noProgress_of_eq rfl) (fun _ _ => rfl) rfl h

theorem notice_actsFor {code : Byte} (h : code ≠ 0x07) (slot : Nat) (fields : List Byte) (s : State) :
    ActsFor slot s (notice code fields s) :=
  actsFor_of_eq (by simp) (by simp) (notice_noProgress h fields s) (fun _ _ => by rw [notice_carriers])
    (admitted_eq_of_carriers (notice_carriers s code fields) slot)
    (fun _ _ => by simp only [State.waitOf, notice_waits])

theorem offerOwn_actsFor (slot : Nat) (f : Frame) (s : State) : ActsFor slot s (offerOwn .c f s) :=
  actsFor_of_eq (by simp) (by simp) (noProgress_of_eq (offerOwn_portD f _)) (fun _ _ => by rw [offerOwn_carriers])
    (admitted_eq_of_carriers (offerOwn_carriers _ .c f) slot) (fun _ _ => by simp only [State.waitOf, offerOwn_waits])

theorem sendAnswer_actsFor (slot : Nat) (f : Frame) (s : State) : ActsFor slot s (sendAnswer slot f s) :=
  (composes_actsFor slot).trans (modifyCarrier_actsFor slot _ s) (offerOwn_actsFor slot f _)

theorem sendGrant_actsFor (slot : Nat) (g : Grant) (s : State) : ActsFor slot s (sendGrant slot g s) :=
  (composes_actsFor slot).trans (modifyCarrier_actsFor slot _ s) (sendAnswer_actsFor slot _ _)

theorem find_filter_other (l : List WaitEntry) {n : Nat} (h : n ≠ slot) :
    (l.filter (fun w => w.slot ≠ slot)).find? (fun w => w.slot = n) = l.find? (fun w => w.slot = n) := by
  rw [List.find?_filter]
  refine congrArg (fun p => l.find? p) (funext fun w => ?_)
  by_cases hw : w.slot = n
  · simp [hw, h]
  · simp [hw]

theorem endWait_actsFor (slot : Nat) (s : State) : ActsFor slot s (endWait slot s) := by
  unfold endWait
  split
  · exact (composes_actsFor slot).refl s
  · exact (composes_actsFor slot).trans (setWaits_actsFor fun _ hn => find_filter_other s.waits hn)
      (modifyCarrier_actsFor slot _ _)

theorem walkFrom_actsFor (e : WaitEntry) (s : State) : ActsFor e.slot s (walkFrom e s).1 := by
  unfold walkFrom
  split
  · exact (composes_actsFor _).refl s
  · exact (composes_actsFor _).trans ((composes_actsFor _).trans (endWait_actsFor _ s) (modifyCarrier_actsFor _ _ _))
      (notice_actsFor (by decide) _ _ _)

theorem find_append_other (l : List WaitEntry) {e : WaitEntry} {n : Nat} (h : n ≠ e.slot) :
    (l ++ [e]).find? (fun w => w.slot = n) = l.find? (fun w => w.slot = n) := by
  have he : ¬e.slot = n := fun x => h x.symm
  simp [List.find?_append, he]

theorem find_map_other (l : List WaitEntry) {e : WaitEntry} {n : Nat} (h : n ≠ e.slot) :
    (l.map (fun w => if w.slot = e.slot then e else w)).find? (fun w => w.slot = n) =
      l.find? (fun w => w.slot = n) := by
  induction l with
  | nil => rfl
  | cons w l ih =>
    have he : ¬e.slot = n := fun x => h x.symm
    by_cases hw : w.slot = e.slot
    · simpa [hw, he] using ih
    · by_cases hn : w.slot = n
      · simp [h, hn]
      · simpa [hw, hn] using ih

theorem enterWait_actsFor (e : WaitEntry) (s : State) : ActsFor e.slot s (enterWait e s).1 := by
  have hR := composes_actsFor e.slot
  unfold enterWait
  split
  · exact hR.trans (hR.trans (setWaits_actsFor fun _ hn => find_append_other s.waits hn) (modifyCarrier_actsFor _ _ _))
      (walkFrom_actsFor e _)
  · have updated : ActsFor e.slot s { s with waits := s.waits.map (fun w => if w.slot = e.slot then e else w) } :=
      setWaits_actsFor fun _ hn => find_map_other s.waits hn
    dsimp only
    split
    · exact updated
    · exact hR.trans updated (walkFrom_actsFor e _)

theorem settleWait_actsFor (slot : Nat) (stop : Option Stop) (s : State) : ActsFor slot s (settleWait slot stop s).1 := by
  unfold settleWait
  split
  · exact endWait_actsFor slot s
  · exact endWait_actsFor slot s
  · rename_i i sec r b
    have h := enterWait_actsFor ⟨slot, i, sec, r, b⟩ s
    split <;> simp_all

/-- A section without an obstacle has room (check 4 of R76). -/
theorem hasRoom_of_obstacle {wide : Bool} {e : RouteEntry} (h : obstacle s slot wide e = none) : s.hasRoom e = true := by
  by_contra hr
  unfold obstacle at h
  split at h
  · cases h
  · rw [if_pos (by simpa using hr)] at h
    cases h

/-- An attempt outside the carrier's own trail that passes finds room (R76). -/
theorem hasRoom_of_attempt {e : RouteEntry} (ht : (s.carrier slot).inTrail e.sec = false)
    (h : attempt s slot e = none) : s.hasRoom e = true := by
  unfold attempt at h
  rw [if_neg (by simp [ht])] at h
  split at h
  · cases h
  · exact hasRoom_of_obstacle (Option.map_eq_none_iff.mp h)

theorem length_lt_of_hasRoom {e : RouteEntry} (h : s.hasRoom e = true) :
    (s.holders e.sec).length < s.capacityOf e.sec := by
  simp only [State.hasRoom, Bool.and_eq_true, decide_eq_true_eq] at h
  exact h.1

theorem addHolder_eq_setHold (slot : Nat) (e : RouteEntry) (s : State) :
    ∃ u, (u = s ∨ ∃ z n, u = s.setOccupied z n) ∧
      addHolder slot e s = u.setHold e.sec ⟨s.holders e.sec ++ [⟨slot, .active⟩],
        some ((s.hold e.sec).direction.getD e.direction)⟩ := by
  unfold addHolder
  dsimp only
  split
  · exact ⟨_, .inr ⟨_, _, rfl⟩, rfl⟩
  · exact ⟨s, .inl rfl, rfl⟩

/-- What a new hold leaves of the rest of the state (R60). -/
theorem addHolder_frame (slot : Nat) (e : RouteEntry) (s : State) :
    (addHolder slot e s).carriers = s.carriers ∧ (addHolder slot e s).waits = s.waits ∧
      (addHolder slot e s).portC = s.portC ∧ (addHolder slot e s).portD = s.portD := by
  obtain ⟨u, hu, eq⟩ := addHolder_eq_setHold slot e s
  rw [eq]
  rcases hu with rfl | ⟨z, n, rfl⟩ <;> simp

theorem addHolder_actsFor {slot : Nat} {e : RouteEntry} (h : (s.holders e.sec).length < s.capacityOf e.sec) :
    ActsFor slot s (addHolder slot e s) := by
  obtain ⟨carriers, waits, -, portD⟩ := addHolder_frame slot e s
  constructor
  · intro n hn
    refine ⟨by rw [carriers], fun sec => ?_, by simp only [State.waitOf, waits]⟩
    rw [holdStateOf_addHolder, if_neg fun h => hn h.1]
  · exact admitted_eq_of_carriers carriers slot
  · intro sec
    rw [holdStateOf_addHolder]
    split
    · rename_i h
      obtain ⟨-, rfl, h⟩ := h
      exact .inr ⟨h, rfl⟩
    · exact .inl rfl
  · exact addHolder_keepsHolds h
  · exact noProgress_of_eq portD

theorem setDirection_frame (sec : Nat) (d : Direction) (s : State) :
    (setDirection sec d s).waits = s.waits ∧ (setDirection sec d s).occupancy = s.occupancy ∧
      (setDirection sec d s).portC = s.portC ∧ (setDirection sec d s).portD = s.portD := by
  simp [setDirection]

theorem setDirection_actsFor (slot sec : Nat) (d : Direction) (s : State) :
    ActsFor slot s (setDirection sec d s) := by
  obtain ⟨waits, -, -, portD⟩ := setDirection_frame sec d s
  have states (n k : Nat) : (setDirection sec d s).holdStateOf n k = s.holdStateOf n k :=
    holdStateOf_of_holders s n k (holders_setDirection s sec k d)
  exact
    { others := fun n _ => ⟨by rw [setDirection_carriers], states n, by simp only [State.waitOf, waits]⟩
      admitted := admitted_eq_of_carriers (setDirection_carriers sec d s) slot
      own := fun k => .inl (states slot k)
      lawful := setDirection_keepsHolds s sec d
      notices := noProgress_of_eq portD }

/-! ### Attempts, computations and re-runs -/

/-- What an attempt that passes does to the Hold Table and the trail, before the limit rises (R57, R60). -/
def takeSection (slot : Nat) (e : RouteEntry) (s : State) : State :=
  if (s.carrier slot).inTrail e.sec then
    setDirection e.sec e.direction
      (s.modifyCarrier slot (fun c => { c with trail := c.trail.filter (fun x => x.sec ≠ e.sec) }))
  else addHolder slot e s

/-- The section taken and the limit raised, the wait not yet looked at (R77). -/
def raiseLimit (slot : Nat) (e : RouteEntry) (s : State) : State :=
  (takeSection slot e s).modifyCarrier slot (fun c => { c with limit := c.limit + 1 })

theorem acquire_eq (slot : Nat) (e : RouteEntry) (s : State) :
    acquire slot e s =
      if ((raiseLimit slot e s).waitOf slot).map (fun w => w.wantedSection) = some e.sec then
        endWait slot (raiseLimit slot e s)
      else raiseLimit slot e s := by
  change (match (raiseLimit slot e s).waitOf slot with
    | some w => if w.wantedSection = e.sec then endWait slot (raiseLimit slot e s) else raiseLimit slot e s
    | none => raiseLimit slot e s) = _
  cases (raiseLimit slot e s).waitOf slot <;> simp

theorem takeSection_actsFor {e : RouteEntry} (h : attempt s slot e = none) : ActsFor slot s (takeSection slot e s) := by
  unfold takeSection
  split
  · exact (composes_actsFor slot).trans (modifyCarrier_actsFor slot _ s) (setDirection_actsFor slot _ _ _)
  · rename_i ht
    exact addHolder_actsFor (length_lt_of_hasRoom (hasRoom_of_attempt (by simpa using ht) h))

theorem acquire_actsFor {e : RouteEntry} (h : attempt s slot e = none) : ActsFor slot s (acquire slot e s) := by
  have raised : ActsFor slot s (raiseLimit slot e s) :=
    (composes_actsFor slot).trans (takeSection_actsFor h) (modifyCarrier_actsFor slot _ _)
  rw [acquire_eq]
  split
  · exact (composes_actsFor slot).trans raised (endWait_actsFor slot _)
  · exact raised

/-- A relation that composes and that every turn of the loop satisfies holds from the loop's begin to its end (R88). -/
theorem acquireLoop_relates {R : State → State → Prop} (hR : Composes R) (slot : Nat)
    (turn : ∀ e u, wantsMore u (u.carrier slot) = true → (u.carrier slot).route[(u.carrier slot).limit + 1]? = some e →
      attempt u slot e = none → R u (acquire slot e u))
    (fuel : Nat) (gained : Bool) (s : State) : R s (acquireLoop slot fuel gained s).state := by
  induction fuel generalizing gained s with
  | zero => exact hR.refl s
  | succ fuel ih =>
    unfold acquireLoop
    dsimp only
    split
    · rename_i hw
      split
      · exact hR.refl s
      · rename_i e he
        split
        · exact hR.refl s
        · rename_i ha
          exact hR.trans (turn e s hw he ha) (ih _ _)
    · exact hR.refl s

theorem acquireLoop_actsFor (slot fuel : Nat) (gained : Bool) (s : State) :
    ActsFor slot s (acquireLoop slot fuel gained s).state :=
  acquireLoop_relates (composes_actsFor slot) slot (fun _ _ _ _ ha => acquire_actsFor ha) fuel gained s

theorem compute_actsFor (slot : Nat) (s : State) : ActsFor slot s (compute slot s).state :=
  (composes_actsFor slot).trans (acquireLoop_actsFor slot _ _ s) (settleWait_actsFor slot _ _)

theorem passOver_actsFor (slot : Nat) (s : State) : ActsFor slot s (passOver slot s) := by
  unfold passOver
  dsimp only
  split
  · exact modifyCarrier_actsFor slot _ s
  · split
    · exact (composes_actsFor slot).refl s
    · exact (composes_actsFor slot).trans (notice_actsFor (by decide) slot _ s) (modifyCarrier_actsFor slot _ _)

/-- A re-run's computation with its GRANT, sent where limit or speed differ (R104). -/
def reanswer (slot : Nat) (s : State) : State :=
  if (compute slot s).grant.differs ((compute slot s).state.carrier slot) then
    sendGrant slot (compute slot s).grant (compute slot s).state
  else (compute slot s).state

theorem rerun_state (slot : Nat) (gained : Bool) (s : State) :
    (rerun slot gained s).1 =
      if gained && !(compute slot s).gained && ((reanswer slot s).waitOf slot).isSome then passOver slot (reanswer slot s)
      else reanswer slot s := rfl

theorem reanswer_actsFor (slot : Nat) (s : State) : ActsFor slot s (reanswer slot s) := by
  unfold reanswer
  split
  · exact (composes_actsFor slot).trans (compute_actsFor slot s) (sendGrant_actsFor slot _ _)
  · exact compute_actsFor slot s

theorem rerun_actsFor (slot : Nat) (gained : Bool) (s : State) : ActsFor slot s (rerun slot gained s).1 := by
  rw [rerun_state]
  split
  · exact (composes_actsFor slot).trans (reanswer_actsFor slot s) (passOver_actsFor slot _)
  · exact reanswer_actsFor slot s

/-! ### Wake events -/

/-- A relation that composes and that every re-run of a carrier not passed by satisfies holds across a wake event (R103,
R105). -/
theorem wake_relates {R : State → State → Prop} (hR : Composes R) {requester : Option Nat}
    (step : ∀ slot u, passedBy requester slot u = false → ∀ v, ActsFor slot u v → R u v) (ev : WakeEvent) (s : State) :
    R s (wake ev requester s) := by
  have all : ∀ l g u, R u (rerunAll requester l g u) := by
    intro l
    induction l with
    | nil => exact fun _ u => hR.refl u
    | cons slot l ih =>
      intro g u
      unfold rerunAll
      split
      · exact ih g u
      · rename_i hp
        exact hR.trans (step slot u (by simpa using hp) _ (rerun_actsFor slot g u)) (ih _ _)
  unfold wake
  split
  · exact all _ _ s
  · exact hR.refl s

/-- Whom a wake event passes by: who waits for nothing, has a cutback in flight, or is the requester (R103, R105). -/
def Exempt (requester : Option Nat) (n : Nat) (s : State) : Prop :=
  s.waitOf n = none ∨ (s.carrier n).cutback.isSome = true ∨ requester = some n

theorem Exempt.congr {requester : Option Nat} {n : Nat} (h : Exempt requester n s) (k : Untouched n s t) :
    Exempt requester n t := by
  unfold Exempt
  rw [k.wait, k.carrier]
  exact h

/-- A wake event leaves alone whom it passes by. -/
theorem wake_untouched {requester : Option Nat} {n : Nat} (h : Exempt requester n s) (ev : WakeEvent) :
    Untouched n s (wake ev requester s) := by
  have hR : Composes (fun s t => Exempt requester n s → Untouched n s t) :=
    ⟨fun u _ => Untouched.refl n u, fun h k x => (isFrame_untouched n).trans (h x) (k (x.congr (h x)))⟩
  refine wake_relates hR (fun slot u hp v acts exempt => acts.others n ?_) ev s h
  rintro rfl
  simp only [passedBy, Bool.or_eq_false_iff, Option.isNone_eq_false_iff, decide_eq_false_iff_not] at hp
  obtain ⟨⟨hw, hc⟩, hr⟩ := hp
  rcases exempt with e | e | e
  · rw [e] at hw; cases hw
  · rw [e] at hc; cases hc
  · exact hr e

theorem wake_keepsHolds (ev : WakeEvent) (requester : Option Nat) (s : State) : KeepsHolds s (wake ev requester s) :=
  wake_relates ⟨KeepsHolds.refl, isFrame_keepsHolds.trans⟩ (fun _ _ _ _ acts => acts.lawful) ev s

theorem wake_noProgress (ev : WakeEvent) (requester : Option Nat) (s : State) : NoProgress s (wake ev requester s) :=
  wake_relates composes_noProgress (fun _ _ _ _ acts => acts.notices) ev s

end

end Sys2Proof.Proofs
end

section
/-! The law of R59 over whole commands: no section ever has more holders than its capacity, and a section has a direction
exactly while it is held. -/

namespace Sys2Proof.Proofs

open Sys2Proof Sys2Proof.Machine Sys2Proof.Laws

variable (s : State)

/-! ### The Hold Table's own operations and their reports -/

theorem modifyCarrier_keepsHolds (n : Nat) (f : Carrier → Carrier) : KeepsHolds s (s.modifyCarrier n f) :=
  (modifyCarrier_actsFor n f s).lawful

theorem sendAnswer_keepsHolds (n : Nat) (f : Frame) : KeepsHolds s (sendAnswer n f s) := (sendAnswer_actsFor n f s).lawful

theorem sendGrant_keepsHolds (n : Nat) (g : Grant) : KeepsHolds s (sendGrant n g s) := (sendGrant_actsFor n g s).lawful

theorem endWait_keepsHolds (n : Nat) : KeepsHolds s (endWait n s) := (endWait_actsFor n s).lawful

theorem notice_keepsHolds (code : Byte) (fields : List Byte) : KeepsHolds s (notice code fields s) :=
  isFrame_keepsHolds.ports (notice_portsOnly s code fields)

theorem KeepsHolds.ite {s t u : State} {c : Prop} [Decidable c] (ht : c → KeepsHolds s t) (hu : ¬c → KeepsHolds s u) :
    KeepsHolds s (if c then t else u) := by
  split
  · exact ht ‹_›
  · exact hu ‹_›

theorem release_keepsHolds (n sec : Nat) (q : Option Nat) : KeepsHolds s (release n sec q s) :=
  KeepsHolds.ite (fun _ => isFrame_keepsHolds.trans (removeHolder_keepsHolds s n sec) (wake_keepsHolds _ _ _))
    fun _ => KeepsHolds.refl s

theorem releaseAll_keepsHolds (n : Nat) (q : Option Nat) (l : List Nat) : KeepsHolds s (releaseAll n q l s) := by
  rw [releaseAll_eq_foldl]
  exact isFrame_keepsHolds.foldl (fun u sec => release_keepsHolds u n sec q) l s

theorem makeActive_keepsHolds (n sec : Nat) : KeepsHolds s (makeActive n sec s) :=
  isFrame_keepsHolds.trans (setHoldState_keepsHolds s n sec _) (wake_keepsHolds _ _ _)

theorem freezeHolds_hold (n sec : Nat) :
    (freezeHolds n s).hold sec = { s.hold sec with
      holders := (s.holders sec).map (fun h => if h.slot = n then { h with state := .frozen } else h) } := by
  have read (t : List (Nat × HoldRecord)) (g : HoldRecord → HoldRecord) :
      lookup (t.map (fun e => (e.1, g e.2))) sec = (lookup t sec).map g := by
    induction t with
    | nil => rfl
    | cons e t ih =>
      obtain ⟨k, h⟩ := e
      simp only [List.map_cons, lookup]
      split
      · rfl
      · exact ih
  have frozen := read s.holds (fun h => { h with
    holders := h.holders.map (fun h => if h.slot = n then { h with state := .frozen } else h) })
  unfold State.holders State.hold
  refine (congrArg (fun x => Option.getD x HoldRecord.free) frozen).trans ?_
  cases lookup s.holds sec <;> rfl

theorem freezeHolds_keepsHolds (n : Nat) : KeepsHolds s (freezeHolds n s) := by
  intro hs
  refine holdsLawful_iff.mpr fun sec => ?_
  obtain ⟨hl, hd⟩ := hs sec
  rw [freezeHolds_hold]
  exact ⟨by rw [List.length_map]; exact hl, List.map_eq_nil_iff.trans hd⟩

/-! ### The Cutback Unit -/

theorem recallHolds_keepsHolds (n : Nat) (l : List Nat) : KeepsHolds s (recallHolds n l s) :=
  isFrame_keepsHolds.foldl (fun u sec => setHoldState_keepsHolds u n sec _) l s

theorem setCutback_keepsHolds (n target upto : Nat) : KeepsHolds s (setCutback n target upto s) :=
  isFrame_keepsHolds.trans
    (isFrame_keepsHolds.trans (recallHolds_keepsHolds s n _) (modifyCarrier_keepsHolds _ n _))
    (sendAnswer_keepsHolds _ n _)

theorem trigger_keepsHolds (n target : Nat) : KeepsHolds s (trigger n target s) := by
  unfold trigger
  dsimp only
  split
  · exact KeepsHolds.ite (fun _ => isFrame_keepsHolds.trans (modifyCarrier_keepsHolds s n _)
      (setCutback_keepsHolds _ n _ _)) fun _ => KeepsHolds.refl s
  · exact KeepsHolds.ite (fun _ => setCutback_keepsHolds s n _ _) fun _ => KeepsHolds.refl s

theorem acceptCutback_keepsHolds (n : Nat) (k : CutbackRecord) : KeepsHolds s (acceptCutback n k s) :=
  isFrame_keepsHolds.trans
    (isFrame_keepsHolds.trans (releaseAll_keepsHolds s n none _) (modifyCarrier_keepsHolds _ n _))
    (modifyCarrier_keepsHolds _ n _)

theorem restoreHolds_keepsHolds (n : Nat) (l : List Nat) : KeepsHolds s (restoreHolds n l s) := by
  induction l generalizing s with
  | nil => exact KeepsHolds.refl s
  | cons sec l ih =>
    exact isFrame_keepsHolds.trans
      (KeepsHolds.ite (fun _ => makeActive_keepsHolds s n sec) fun _ => KeepsHolds.refl s) (ih _)

theorem endUnaccepted_keepsHolds (n : Nat) (k : CutbackRecord) (c : Condition) (code : Byte) :
    KeepsHolds s (endUnaccepted n k c code s) :=
  isFrame_keepsHolds.trans
    (isFrame_keepsHolds.trans
      (isFrame_keepsHolds.trans (restoreHolds_keepsHolds s n _) (modifyCarrier_keepsHolds _ n _))
      (modifyCarrier_keepsHolds _ n _))
    (notice_keepsHolds _ _ _)

theorem takeAck_keepsHolds (n : Nat) (a : CutbackAck) : KeepsHolds s (takeAck n a s) := by
  have heard : KeepsHolds s (refresh n s) := modifyCarrier_keepsHolds s n _
  unfold takeAck
  split
  · dsimp only
    split
    · exact heard
    · refine KeepsHolds.ite (fun _ => heard) fun _ => ?_
      refine KeepsHolds.ite (fun _ => isFrame_keepsHolds.trans heard (acceptCutback_keepsHolds _ n _)) fun _ => ?_
      exact KeepsHolds.ite (fun _ => isFrame_keepsHolds.trans heard (endUnaccepted_keepsHolds _ n _ _ _)) fun _ => heard
  · exact KeepsHolds.refl s

theorem closeWait_keepsHolds (n : Nat) : KeepsHolds s (closeWait n s) :=
  keepsHolds_of_eq (closeWait_keeps n s).holds (closeWait_trafficOnly s n).map.sections

theorem closeTrigger_keepsHolds (n : Nat) : KeepsHolds s (closeTrigger n s) := by
  unfold closeTrigger
  dsimp only
  refine KeepsHolds.ite (fun _ => ?_) fun _ => KeepsHolds.refl s
  split
  · exact trigger_keepsHolds s n _
  · exact KeepsHolds.refl s

theorem closeTraffic_keepsHolds (closes : Nat → Bool) : KeepsHolds s (closeTraffic closes s) :=
  isFrame_keepsHolds.trans (isFrame_keepsHolds.foldl (fun u n => closeWait_keepsHolds u n) _ s)
    (isFrame_keepsHolds.foldl (fun u n => closeTrigger_keepsHolds u n) _ _)

/-! ### Requests -/

theorem leaveService_keepsHolds (n : Nat) (st : CarrierState) (cause : LostCause) (c : Condition) (code : Byte) :
    KeepsHolds s (leaveService n st cause c code s) :=
  isFrame_keepsHolds.trans
    (isFrame_keepsHolds.trans
      (isFrame_keepsHolds.trans (endWait_keepsHolds s n) (freezeHolds_keepsHolds _ n)) (modifyCarrier_keepsHolds _ n _))
    (notice_keepsHolds _ _ _)

theorem haltPart_keepsHolds (cause : HaltCause) (n : Nat) (st : Station) (sec : Nat) :
    KeepsHolds s (haltPart cause n st sec s) :=
  isFrame_keepsHolds.trans (t := { s with partState := .halted, haltCause := cause }) (keepsHolds_of_eq rfl rfl)
    (notice_keepsHolds _ _ _)

theorem trimOne_keepsHolds (n : Nat) : KeepsHolds s (trimOne n s) := by
  unfold trimOne
  split
  · exact KeepsHolds.refl s
  · rename_i e rest _
    have released := isFrame_keepsHolds.trans (modifyCarrier_keepsHolds s n (fun c => { c with trail := rest }))
      (release_keepsHolds _ n e.sec (some n))
    dsimp only
    refine KeepsHolds.ite (fun _ => released) fun _ => ?_
    exact KeepsHolds.ite (fun _ => isFrame_keepsHolds.trans released (modifyCarrier_keepsHolds _ n _)) fun _ =>
      isFrame_keepsHolds.trans (isFrame_keepsHolds.trans released (notice_keepsHolds _ _ _))
        (modifyCarrier_keepsHolds _ n _)

theorem trimMany_keepsHolds (n k : Nat) : KeepsHolds s (trimMany n k s) := by
  induction k generalizing s with
  | zero => exact KeepsHolds.refl s
  | succ k ih => exact isFrame_keepsHolds.trans (trimOne_keepsHolds s n) (ih _)

theorem trimTrail_keepsHolds (n count : Nat) : KeepsHolds s (trimTrail n count s) := trimMany_keepsHolds s n _

theorem updatePosition_keepsHolds (n : Nat) (r : MoveReq) : KeepsHolds s (updatePosition n r s) :=
  isFrame_keepsHolds.trans
    (isFrame_keepsHolds.trans (modifyCarrier_keepsHolds s n _) (trimTrail_keepsHolds _ n _))
    (modifyCarrier_keepsHolds _ n _)

theorem finishRequest_keepsHolds (n : Nat) : KeepsHolds s (finishRequest n s) := by
  unfold finishRequest
  dsimp only
  refine KeepsHolds.ite (fun _ => ?_) fun _ => ?_
  · exact isFrame_keepsHolds.trans
      (isFrame_keepsHolds.trans (notice_keepsHolds s _ _) (modifyCarrier_keepsHolds _ n _)) (sendGrant_keepsHolds _ n _)
  · exact KeepsHolds.ite (fun _ => sendGrant_keepsHolds s n _) fun _ =>
      isFrame_keepsHolds.trans (compute_actsFor n s).lawful (sendGrant_keepsHolds _ n _)

theorem cutbackStep_keepsHolds (n : Nat) : KeepsHolds s (cutbackStep n s) := by
  unfold cutbackStep
  split
  · exact finishRequest_keepsHolds s n
  · exact KeepsHolds.ite
      (fun _ => isFrame_keepsHolds.trans (endUnaccepted_keepsHolds s n _ _ _) (finishRequest_keepsHolds _ n))
      fun _ => sendAnswer_keepsHolds s n _

theorem badReport_keepsHolds (n : Nat) : KeepsHolds s (badReport n s) :=
  KeepsHolds.ite
    (fun _ => isFrame_keepsHolds.trans (modifyCarrier_keepsHolds s n _) (leaveService_keepsHolds _ n _ _ _ _))
    fun _ => modifyCarrier_keepsHolds s n _

theorem overrun_keepsHolds (n head : Nat) : KeepsHolds s (overrun n head s) := by
  have left : KeepsHolds s (quarantineOverrun n s) := leaveService_keepsHolds s n _ _ _ _
  exact KeepsHolds.ite (fun _ => isFrame_keepsHolds.trans left (haltPart_keepsHolds _ _ _ _ _)) fun _ => left

theorem standingReport_keepsHolds (n : Nat) (r : MoveReq) : KeepsHolds s (standingReport n r s) := by
  have applied := isFrame_keepsHolds.trans (trimTrail_keepsHolds s n r.trailCount.toNat)
    (modifyCarrier_keepsHolds _ n (fun c => { c with
      remaining := min r.remaining.toNat ((trimTrail n r.trailCount.toNat s).lengthOf c.headSection) }))
  exact KeepsHolds.ite (fun _ => isFrame_keepsHolds.trans applied (sendGrant_keepsHolds _ n _)) fun _ =>
    isFrame_keepsHolds.trans applied (sendGrant_keepsHolds _ n _)

theorem newRequest_keepsHolds (n : Nat) (r : MoveReq) : KeepsHolds s (newRequest n r s) := by
  have noted : KeepsHolds s (noteGoodReport n r s) := modifyCarrier_keepsHolds s n _
  have recorded : KeepsHolds s (recordSequence n r.sequence (noteGoodReport n r s)) :=
    isFrame_keepsHolds.trans noted (modifyCarrier_keepsHolds _ n _)
  unfold newRequest
  dsimp only
  refine KeepsHolds.ite (fun _ => ?_) fun _ => ?_
  · exact isFrame_keepsHolds.trans (isFrame_keepsHolds.trans recorded (trimTrail_keepsHolds _ n _))
      (sendGrant_keepsHolds _ n _)
  refine KeepsHolds.ite (fun _ => badReport_keepsHolds s n) fun _ => ?_
  refine KeepsHolds.ite (fun _ => isFrame_keepsHolds.trans recorded (standingReport_keepsHolds _ n r)) fun _ => ?_
  refine KeepsHolds.ite (fun _ => isFrame_keepsHolds.trans noted (overrun_keepsHolds _ n _)) fun _ => ?_
  exact isFrame_keepsHolds.trans (isFrame_keepsHolds.trans recorded (updatePosition_keepsHolds _ n r))
    (cutbackStep_keepsHolds _ n)

theorem takeMoveReq_keepsHolds (n : Nat) (r : MoveReq) : KeepsHolds s (takeMoveReq n r s) := by
  have heard : KeepsHolds s (refresh n s) := modifyCarrier_keepsHolds s n _
  refine KeepsHolds.ite (fun _ => ?_) fun _ => KeepsHolds.refl s
  dsimp only
  split
  · exact isFrame_keepsHolds.trans heard (newRequest_keepsHolds _ n r)
  · exact isFrame_keepsHolds.trans heard (isFrame_keepsHolds.ports (resend_portsOnly _ n))
  · exact heard

theorem takeRejoin_keepsHolds (n : Nat) (r : Rejoin) : KeepsHolds s (takeRejoin n r s) := by
  have told (f : Carrier → Carrier) (cause : LostCause) (st : CarrierState) :
      KeepsHolds s (noticeRejoin n cause st r.believed (s.modifyCarrier n f)) :=
    isFrame_keepsHolds.trans (modifyCarrier_keepsHolds s n f) (notice_keepsHolds _ _ _)
  unfold takeRejoin
  dsimp only
  split
  · exact told _ _ _
  · exact told _ _ _
  · exact KeepsHolds.refl s
  · exact KeepsHolds.refl s
  · exact told _ _ _
  · exact told _ _ _

/-- A frame of a carrier, whatever its kind. -/
theorem classifyC_keepsHolds (f : Frame) : KeepsHolds s (classifyC f s) := by
  have ports {t : State} (h : PortsOnly s t) : KeepsHolds s t := isFrame_keepsHolds.ports h
  unfold classifyC
  refine KeepsHolds.ite (fun _ => ?_) fun _ => ?_
  · refine KeepsHolds.ite (fun _ => ports (raise_portsOnly s .c _)) fun _ => ?_
    refine KeepsHolds.ite (fun _ => ?_) fun _ => ?_
    · exact forCarrier_frame s isFrame_keepsHolds (fun n u => takeMoveReq_keepsHolds u n _) _
    · exact KeepsHolds.ite
        (fun _ => forCarrier_frame s isFrame_keepsHolds (fun n u => takeAck_keepsHolds u n _) _)
        fun _ => forCarrier_frame s isFrame_keepsHolds (fun n u => takeRejoin_keepsHolds u n _) _
  · exact KeepsHolds.ite (fun _ => ports (raise_portsOnly s .c _)) fun _ => ports (offerForward_portsOnly s .d f)

/-! ### Routes and carrier commands -/

theorem handleRoute_keepsHolds (o : RouteOrder) : KeepsHolds s (handleRoute o s) := by
  unfold handleRoute
  split
  · exact notice_keepsHolds s _ _
  · rename_i slot es _
    refine isFrame_keepsHolds.trans ?_ (isFrame_keepsHolds.ports (offerForward_portsOnly _ .c _))
    refine isFrame_keepsHolds.trans (endWait_keepsHolds s slot) ?_
    refine isFrame_keepsHolds.trans ?_ (modifyCarrier_keepsHolds _ slot _)
    split
    · exact setDirection_keepsHolds _ _ _
    · exact KeepsHolds.refl _

/-- An admission that passes its checks finds its head section without an obstacle (R32). -/
theorem obstacle_of_checkAdmit {s : State} {o : AdmitOrder} {d : Direction} (h : checkAdmit o s = .inr d) :
    obstacle s o.slot o.params.wide ⟨o.headSection, d⟩ = none := by
  have passed {c : Prop} [Decidable c] {st : Status} {x : Status ⊕ Direction} (h : (if c then .inl st else x) = .inr d) :
      ¬c ∧ x = .inr d := by
    by_cases hc : c
    · rw [if_pos hc] at h; cases h
    · rw [if_neg hc] at h; exact ⟨hc, h⟩
  unfold checkAdmit at h
  obtain ⟨-, h⟩ := passed h
  obtain ⟨-, h⟩ := passed h
  split at h
  · cases h
  · obtain ⟨-, h⟩ := passed h
    obtain ⟨-, h⟩ := passed h
    obtain ⟨-, h⟩ := passed h
    obtain ⟨-, h⟩ := passed h
    obtain ⟨free, h⟩ := passed h
    cases h
    simpa using free

theorem handleCarrierAdmit_keepsHolds (m : Mgmt) : KeepsHolds s (handleCarrierAdmit m s) := by
  unfold handleCarrierAdmit
  refine KeepsHolds.ite (fun _ => isFrame_keepsHolds.refuse s m _) fun _ => ?_
  split
  · exact isFrame_keepsHolds.refuse s m _
  · rename_i d h
    have room := length_lt_of_hasRoom (hasRoom_of_obstacle (obstacle_of_checkAdmit h))
    refine isFrame_keepsHolds.answer ?_ m _ _
    exact isFrame_keepsHolds.trans (t := s.putCarrier _ (admittedContext _)) (keepsHolds_of_eq rfl rfl)
      (addHolder_keepsHolds room)

theorem handleCarrierRetire_keepsHolds (m : Mgmt) : KeepsHolds s (handleCarrierRetire m s) := by
  have refused := isFrame_keepsHolds.refuse s m
  have retired (n : Nat) : KeepsHolds s (retire n s) := by
    refine isFrame_keepsHolds.trans (endWait_keepsHolds s n) ?_
    refine isFrame_keepsHolds.trans (t := strikeBlocker n (endWait n s)) (keepsHolds_of_eq rfl rfl) ?_
    exact isFrame_keepsHolds.trans (releaseAll_keepsHolds _ n none _) (keepsHolds_of_eq rfl rfl)
  unfold handleCarrierRetire
  refine KeepsHolds.ite (fun _ => refused _) fun _ => ?_
  refine KeepsHolds.ite (fun _ => refused _) fun _ => ?_
  refine KeepsHolds.ite (fun _ => refused _) fun _ => ?_
  exact KeepsHolds.ite (fun _ => refused _) fun _ => isFrame_keepsHolds.answer (retired _) m _ _

theorem handleCarrierRecall_keepsHolds (m : Mgmt) : KeepsHolds s (handleCarrierRecall m s) := by
  have refused := isFrame_keepsHolds.refuse s m
  unfold handleCarrierRecall
  dsimp only
  refine KeepsHolds.ite (fun _ => refused _) fun _ => ?_
  refine KeepsHolds.ite (fun _ => refused _) fun _ => ?_
  refine KeepsHolds.ite (fun _ => refused _) fun _ => ?_
  refine KeepsHolds.ite (fun _ => refused _) fun _ => ?_
  refine KeepsHolds.ite (fun _ => refused _) fun _ => ?_
  exact isFrame_keepsHolds.answer (KeepsHolds.ite (fun _ => KeepsHolds.refl s) fun _ => trigger_keepsHolds s _ _) m _ _

theorem handleCarrierQuery_keepsHolds (m : Mgmt) : KeepsHolds s (handleCarrierQuery m s) := by
  have refused := isFrame_keepsHolds.refuse s m
  unfold handleCarrierQuery
  refine KeepsHolds.ite (fun _ => refused _) fun _ => ?_
  refine KeepsHolds.ite (fun _ => refused _) fun _ => ?_
  refine KeepsHolds.ite (fun _ => refused _) fun _ => ?_
  exact isFrame_keepsHolds.answer (modifyCarrier_keepsHolds s _ _) m _ _

/-! ### The clear -/

theorem keepHolds_keepsHolds (n : Nat) (es : List RouteEntry) : KeepsHolds s (keepHolds n es s) :=
  isFrame_keepsHolds.foldl (fun u _ => isFrame_keepsHolds.trans
    (KeepsHolds.ite (fun _ => setDirection_keepsHolds u _ _) fun _ => KeepsHolds.refl u) (makeActive_keepsHolds _ n _)) es s

/-- Holds are entered one after another on different sections that each have room. -/
theorem takeHolds_keepsHolds {n : Nat} {es : List RouteEntry} {s : State} (once : (es.map (fun e => e.sec)).Nodup)
    (room : ∀ e ∈ es, (s.holders e.sec).length < s.capacityOf e.sec) : KeepsHolds s (takeHolds n es s) := by
  induction es generalizing s with
  | nil => exact KeepsHolds.refl s
  | cons e es ih =>
    obtain ⟨he, once⟩ := List.nodup_cons.mp once
    obtain ⟨first, room⟩ := List.forall_mem_cons.mp room
    refine isFrame_keepsHolds.trans (addHolder_keepsHolds first) (ih once fun x hx => ?_)
    have other : x.sec ≠ e.sec := fun h => he (List.mem_map.mpr ⟨x, hx, h⟩)
    rw [holders_addHolder, if_neg other, capacityOf_of_sections (addHolder_trafficOnly s n e).map.sections]
    exact room x hx

/-- A fold that leaves one section out leaves that section's holders. -/
theorem holders_removeHolders {n sec : Nat} (l : List Nat) (h : sec ∉ l) (s : State) :
    (l.foldl (fun s k => (removeHolder n k s).1) s).holders sec = s.holders sec := by
  induction l generalizing s with
  | nil => rfl
  | cons k l ih =>
    obtain ⟨hk, hl⟩ := not_or.mp (mt List.mem_cons.mpr h)
    exact (ih hl _).trans ((holders_removeHolder s n k sec).trans (if_neg hk))

/-- A named section that the carrier does not hold has room where check 7 of R38 passes. -/
theorem room_of_obtainable {n : Nat} {p : Position} {e : RouteEntry} {s : State} (he : e ∈ p.entries)
    (hn : s.holdsSection n e.sec = false) (h : keepableOrObtainable (withoutUnnamed n p s) n e = true) :
    (s.holders e.sec).length < s.capacityOf e.sec := by
  have named : e.sec ∉ unnamedHolds s n p := fun hm => by
    have := (List.mem_filter.mp hm).2
    simp only [Bool.and_eq_true, Bool.not_eq_true', Position.names, List.any_eq_false, decide_eq_true_eq] at this
    exact this.2 e he rfl
  have holders : (withoutUnnamed n p s).holders e.sec = s.holders e.sec := holders_removeHolders _ named s
  have sections : (withoutUnnamed n p s).sections = s.sections :=
    (TrafficOnly.foldl (fun u k => removeHolder_trafficOnly u n k) _ s).map.sections
  have unheld : (withoutUnnamed n p s).holdsSection n e.sec = false := by
    rw [← hn]
    simp only [State.holdsSection, holders]
  rw [keepableOrObtainable, unheld, if_neg Bool.false_ne_true, Option.isNone_iff_eq_none] at h
  have room := length_lt_of_hasRoom (hasRoom_of_obstacle h)
  rwa [holders, capacityOf_of_sections sections] at room

theorem clear_keepsHolds {n : Nat} {p : Position} {s : State} (h : checkClear s n p = none) :
    KeepsHolds s (clear n p s) := by
  obtain ⟨once, obtainable⟩ : (p.entries.map (fun e => e.sec)).Nodup ∧
      ∀ e ∈ p.entries, keepableOrObtainable (withoutUnnamed n p s) n e = true := by
    unfold checkClear at h
    simp only [refused_else_eq_none_iff] at h
    obtain ⟨-, -, once, -, -, obtainable, -⟩ := h
    exact ⟨by simpa using once, by simpa using obtainable⟩
  refine isFrame_keepsHolds.trans ?_ (modifyCarrier_keepsHolds _ n _)
  refine isFrame_keepsHolds.trans ?_ (releaseAll_keepsHolds _ n none _)
  have once' : ((p.entries.filter (fun e => !s.holdsSection n e.sec)).map (fun e => e.sec)).Nodup :=
    once.sublist (List.filter_sublist.map _)
  refine KeepsHolds.ite (fun free => ?_) fun _ => ?_
  · refine isFrame_keepsHolds.trans (keepHolds_keepsHolds s n _) (takeHolds_keepsHolds once' fun e he => ?_)
    have free := List.all_eq_true.mp free e he
    exact length_lt_of_hasRoom (hasRoom_of_obstacle (Option.isNone_iff_eq_none.mp free))
  · refine isFrame_keepsHolds.trans (takeHolds_keepsHolds once' fun e he => ?_) (keepHolds_keepsHolds _ n _)
    obtain ⟨he, hn⟩ := List.mem_filter.mp he
    exact room_of_obtainable he (by simpa using hn) (obtainable e he)

theorem handleCarrierClear_keepsHolds (m : Mgmt) : KeepsHolds s (handleCarrierClear m s) := by
  have refused := isFrame_keepsHolds.refuse s m
  unfold handleCarrierClear
  dsimp only
  refine KeepsHolds.ite (fun _ => refused _) fun _ => ?_
  split
  · exact refused _
  · refine KeepsHolds.ite (fun _ => refused _) fun _ => ?_
    split
    · exact refused _
    · rename_i h
      exact isFrame_keepsHolds.answer (clear_keepsHolds h) m _ _

/-! ### Map commands -/

/-- A section entry is put in whose capacity is the one that section had. -/
theorem putEntry_keepsHolds {s : State} {n : Nat} {e f : SectionEntry} (hn : lookup s.sections n = some e)
    (hf : f.data.capacity = e.data.capacity) : KeepsHolds s { s with sections := insertAt s.sections n f } :=
  keepsHolds_of_reads (fun _ => rfl) fun sec => by
    simp only [State.capacityOf, lookup_insertAt]
    split
    · rename_i h; rw [h, hn]; simp [hf]
    · rfl

/-- An entry put in for a section that nobody holds can have any capacity. -/
theorem putUnheld_keepsHolds {s : State} {n : Nat} {f : SectionEntry} (hn : s.holders n = []) :
    KeepsHolds s { s with sections := insertAt s.sections n f } := by
  intro hs
  refine holdsLawful_iff.mpr fun sec => ?_
  by_cases h : sec = n
  · subst h
    refine ⟨?_, (hs sec).2⟩
    change (s.holders sec).length ≤ _
    rw [hn]
    exact Nat.zero_le _
  · have cap : State.capacityOf { s with sections := insertAt s.sections n f } sec = s.capacityOf sec := by
      simp only [State.capacityOf, lookup_insertAt_other _ _ h]
    rw [cap]
    exact hs sec

/-- A record that passes its checks leaves a held section's data as it stands (R6). -/
theorem loadSection_keepsHolds {n : Nat} {d : SectionRecord} {s : State} (h : checkSection s n (some d) = none) :
    KeepsHolds s (loadSection n d s) := by
  have kept : s.referenced n = true → (lookup s.sections n).map (fun e => e.data) = some d := by
    intro hr
    unfold checkSection at h
    simp only [refused_else_eq_none_iff] at h
    obtain ⟨-, -, -, -, unchanged, -⟩ := h
    simpa [hr] using unchanged
  have unheld (hr : ¬s.referenced n = true) : s.holders n = [] := by
    by_contra hh
    exact hr (by simp [State.referenced, hh])
  unfold loadSection
  split
  · rename_i hn
    refine putUnheld_keepsHolds (unheld fun hr => ?_)
    have := kept hr
    rw [hn] at this
    cases this
  · rename_i e hn
    by_cases hr : s.referenced n = true
    · have same := kept hr
      rw [hn] at same
      exact putEntry_keepsHolds hn (by rw [← Option.some.inj same])
    · exact putUnheld_keepsHolds (unheld hr)

theorem loadSections_keepsHolds (bs : List Byte) (first k i : Nat) :
    KeepsHolds s (loadSections bs first k i s).1 := by
  induction k generalizing i s with
  | zero => exact KeepsHolds.refl s
  | succ k ih =>
    unfold loadSections
    split
    · exact KeepsHolds.refl s
    · exact KeepsHolds.refl s
    · rename_i d hc hd
      rw [hd] at hc
      exact isFrame_keepsHolds.trans (loadSection_keepsHolds hc) (ih _ _)

theorem loadZone_keepsHolds (z c : Nat) : KeepsHolds s (loadZone z c s) := by
  unfold loadZone
  split
  · exact keepsHolds_of_eq rfl rfl
  · rename_i e _
    have stored : KeepsHolds s { s with zones := insertAt s.zones z { e with capacity := c } } := keepsHolds_of_eq rfl rfl
    exact KeepsHolds.ite (fun _ => isFrame_keepsHolds.trans stored (wake_keepsHolds _ _ _)) fun _ => stored

theorem loadZones_keepsHolds (bs : List Byte) (first k i : Nat) : KeepsHolds s (loadZones bs first k i s).1 := by
  induction k generalizing i s with
  | zero => exact KeepsHolds.refl s
  | succ k ih =>
    unfold loadZones
    split
    · exact KeepsHolds.refl s
    · exact isFrame_keepsHolds.trans (loadZone_keepsHolds s _ _) (ih _ _)

theorem setSectionOpen_keepsHolds (n : Nat) (o : Bool) : KeepsHolds s (setSectionOpen n o s) := by
  unfold setSectionOpen
  split
  · rename_i h; exact putEntry_keepsHolds h rfl
  · exact KeepsHolds.refl s

theorem setZoneOpen_keepsHolds (z : Nat) (o : Bool) : KeepsHolds s (setZoneOpen z o s) := by
  unfold setZoneOpen
  split
  · exact keepsHolds_of_eq rfl rfl
  · exact KeepsHolds.refl s

theorem setChain_keepsHolds (n : Nat) (f : List ConflictRecord → List ConflictRecord) :
    KeepsHolds s (setChain n f s) := by
  unfold setChain
  split
  · rename_i h; exact putEntry_keepsHolds h rfl
  · exact KeepsHolds.refl s

theorem appendConflict_keepsHolds (a b : Nat) (cond : ConflictCondition) :
    KeepsHolds s (appendConflict a b cond s) := by
  unfold appendConflict
  split
  · exact KeepsHolds.refl s
  · rename_i rest _
    exact isFrame_keepsHolds.trans (t := { s with freeRecords := rest }) (keepsHolds_of_eq rfl rfl)
      (setChain_keepsHolds _ _ _)

theorem unlinkConflict_keepsHolds (a b : Nat) : KeepsHolds s (unlinkConflict a b s) := by
  unfold unlinkConflict
  split
  · rename_i r _
    exact isFrame_keepsHolds.trans (t := { s with freeRecords := r.record :: s.freeRecords }) (keepsHolds_of_eq rfl rfl)
      (setChain_keepsHolds _ _ _)
  · exact KeepsHolds.refl s

theorem handleConflictAdd_keepsHolds (m : Mgmt) : KeepsHolds s (handleConflictAdd m s) := by
  refine isFrame_keepsHolds.handleConflictAdd m s (fun a b r cond _ _ _ _ => ?_) fun a b cond _ _ _ _ _ _ _ => ?_
  · have changed : KeepsHolds s (changeConflict b a cond (changeConflict a b cond s)) :=
      isFrame_keepsHolds.trans (setChain_keepsHolds s _ _) (setChain_keepsHolds _ _ _)
    exact KeepsHolds.ite (fun _ => isFrame_keepsHolds.trans changed (wake_keepsHolds _ _ _)) fun _ => changed
  · exact isFrame_keepsHolds.trans (appendConflict_keepsHolds s a b cond) (appendConflict_keepsHolds _ b a cond)

theorem handleConflictRemove_keepsHolds (m : Mgmt) : KeepsHolds s (handleConflictRemove m s) :=
  isFrame_keepsHolds.handleConflictRemove m s fun a b _ _ _ _ _ =>
    isFrame_keepsHolds.trans
      (isFrame_keepsHolds.trans (unlinkConflict_keepsHolds s a b) (unlinkConflict_keepsHolds _ b a))
      (wake_keepsHolds _ _ _)

theorem handleSectionLoad_keepsHolds (m : Mgmt) : KeepsHolds s (handleSectionLoad m s) :=
  KeepsHolds.ite (fun _ => isFrame_keepsHolds.answer (KeepsHolds.refl s) m _ _) fun _ =>
    isFrame_keepsHolds.answer (loadSections_keepsHolds s _ _ _ _) m _ _

theorem handleZoneLoad_keepsHolds (m : Mgmt) : KeepsHolds s (handleZoneLoad m s) :=
  KeepsHolds.ite (fun _ => isFrame_keepsHolds.answer (KeepsHolds.refl s) m _ _) fun _ =>
    isFrame_keepsHolds.answer (loadZones_keepsHolds s _ _ _ _) m _ _

theorem handleSectionOpen_keepsHolds (m : Mgmt) : KeepsHolds s (handleSectionOpen m s) :=
  isFrame_keepsHolds.onSection (fun n _ u => KeepsHolds.ite (fun _ => KeepsHolds.refl u) fun _ =>
    isFrame_keepsHolds.trans (setSectionOpen_keepsHolds u n true) (wake_keepsHolds _ _ _)) m s

theorem handleSectionClose_keepsHolds (m : Mgmt) : KeepsHolds s (handleSectionClose m s) :=
  isFrame_keepsHolds.onSection (fun n _ u => KeepsHolds.ite (fun _ =>
    isFrame_keepsHolds.trans (setSectionOpen_keepsHolds u n false) (closeTraffic_keepsHolds _ _))
      fun _ => KeepsHolds.refl u) m s

theorem handleZoneOpen_keepsHolds (m : Mgmt) : KeepsHolds s (handleZoneOpen m s) :=
  isFrame_keepsHolds.onZone (fun z _ u => KeepsHolds.ite (fun _ => KeepsHolds.refl u) fun _ =>
    isFrame_keepsHolds.trans (setZoneOpen_keepsHolds u z true) (wake_keepsHolds _ _ _)) m s

theorem handleZoneClose_keepsHolds (m : Mgmt) : KeepsHolds s (handleZoneClose m s) :=
  isFrame_keepsHolds.onZone (fun z _ u => KeepsHolds.ite (fun _ =>
    isFrame_keepsHolds.trans (setZoneOpen_keepsHolds u z false) (closeTraffic_keepsHolds _ _))
      fun _ => KeepsHolds.refl u) m s

/-! ### Part commands -/

theorem setParam_keepsHolds (code : Byte) (v : Half) : KeepsHolds s (setParam code v s).1 := by
  have stored (p : PartParams) : KeepsHolds s (s.setParams p) := keepsHolds_of_eq rfl rfl
  have limit : KeepsHolds s (setHoldLimit v.toNat s) :=
    KeepsHolds.ite (fun _ => keepsHolds_of_eq rfl rfl) fun _ => stored _
  unfold setParam
  dsimp only
  split_ifs
  all_goals first
    | exact KeepsHolds.refl s
    | exact stored _
    | exact limit

theorem handleParamsSet_keepsHolds (m : Mgmt) : KeepsHolds s (handleParamsSet m s) :=
  KeepsHolds.ite (fun _ => isFrame_keepsHolds.refuse s m _) fun _ =>
    isFrame_keepsHolds.answer (setParam_keepsHolds s _ _) m _ _

theorem handleStart_keepsHolds (m : Mgmt) : KeepsHolds s (handleStart m s) := by
  have started : KeepsHolds s (startPart s) := by
    unfold startPart
    split <;> exact keepsHolds_of_eq rfl rfl
  exact KeepsHolds.ite (fun _ => isFrame_keepsHolds.refuse s m _) fun _ => isFrame_keepsHolds.answer started m _ _

theorem handleHalt_keepsHolds (m : Mgmt) : KeepsHolds s (handleHalt m s) := by
  refine KeepsHolds.ite (fun _ => isFrame_keepsHolds.refuse s m _) fun _ => ?_
  split
  · exact isFrame_keepsHolds.refuse s m _
  · exact isFrame_keepsHolds.answer (KeepsHolds.refl s) m _ _
  · exact isFrame_keepsHolds.answer (haltPart_keepsHolds s _ _ _ _) m _ _

/-- An empty Hold Table is lawful, whatever the map. -/
theorem holdsLawful_of_empty {t : State} (h : t.holds = []) : t.HoldsLawful :=
  holdsLawful_iff.mpr fun sec => by
    have free : t.hold sec = .free := by simp [State.hold, h, lookup]
    rw [free]
    exact fits_free _

theorem handleReset_keepsHolds (m : Mgmt) : KeepsHolds s (handleReset m s) := by
  have refused := isFrame_keepsHolds.refuse s m
  have traffic : KeepsHolds s (resetTraffic s) := fun _ => haltPart_keepsHolds _ _ _ _ _ (holdsLawful_of_empty rfl)
  refine KeepsHolds.ite (fun _ => refused _) fun _ => ?_
  refine KeepsHolds.ite (fun _ => ?_) fun _ => ?_
  · exact KeepsHolds.ite (fun _ => refused _) fun _ => isFrame_keepsHolds.answer traffic m _ _
  · exact KeepsHolds.ite (fun _ => isFrame_keepsHolds.answer (fun _ => holdsLawful_of_empty rfl) m _ _) fun _ => refused _

theorem handleMgmt_keepsHolds (code : Byte) (m : Mgmt) : KeepsHolds s (handleMgmt code m s) := by
  have ports {t : State} (h : PortsOnly s t) : KeepsHolds s t := isFrame_keepsHolds.ports h
  unfold handleMgmt
  refine KeepsHolds.ite (fun _ => handleSectionLoad_keepsHolds s m) fun _ => ?_
  refine KeepsHolds.ite (fun _ => handleZoneLoad_keepsHolds s m) fun _ => ?_
  refine KeepsHolds.ite (fun _ => handleSectionOpen_keepsHolds s m) fun _ => ?_
  refine KeepsHolds.ite (fun _ => handleSectionClose_keepsHolds s m) fun _ => ?_
  refine KeepsHolds.ite (fun _ => handleConflictAdd_keepsHolds s m) fun _ => ?_
  refine KeepsHolds.ite (fun _ => handleConflictRemove_keepsHolds s m) fun _ => ?_
  refine KeepsHolds.ite (fun _ => handleZoneOpen_keepsHolds s m) fun _ => ?_
  refine KeepsHolds.ite (fun _ => handleZoneClose_keepsHolds s m) fun _ => ?_
  refine KeepsHolds.ite (fun _ => handleCarrierAdmit_keepsHolds s m) fun _ => ?_
  refine KeepsHolds.ite (fun _ => handleCarrierRetire_keepsHolds s m) fun _ => ?_
  refine KeepsHolds.ite (fun _ => handleCarrierClear_keepsHolds s m) fun _ => ?_
  refine KeepsHolds.ite (fun _ => handleCarrierRecall_keepsHolds s m) fun _ => ?_
  refine KeepsHolds.ite (fun _ => handleCarrierQuery_keepsHolds s m) fun _ => ?_
  refine KeepsHolds.ite (fun _ => ports (handleSectionQuery_portsOnly s m)) fun _ => ?_
  refine KeepsHolds.ite (fun _ => ports (handlePartQuery_portsOnly s m)) fun _ => ?_
  refine KeepsHolds.ite (fun _ => handleParamsSet_keepsHolds s m) fun _ => ?_
  refine KeepsHolds.ite (fun _ => handleStart_keepsHolds s m) fun _ => ?_
  refine KeepsHolds.ite (fun _ => handleHalt_keepsHolds s m) fun _ => ?_
  exact KeepsHolds.ite (fun _ => handleReset_keepsHolds s m) fun _ => isFrame_keepsHolds.refuse s m _

theorem classifyD_keepsHolds (f : Frame) : KeepsHolds s (classifyD f s) := by
  have ports {t : State} (h : PortsOnly s t) : KeepsHolds s t := isFrame_keepsHolds.ports h
  unfold classifyD
  refine KeepsHolds.ite (fun _ => ?_) fun _ => ?_
  · exact KeepsHolds.ite (fun _ => ports (raise_portsOnly s .d _)) fun _ => handleMgmt_keepsHolds s _ _
  refine KeepsHolds.ite (fun _ => handleRoute_keepsHolds s _) fun _ => ?_
  refine KeepsHolds.ite (fun _ => ports (raise_portsOnly s .d _)) fun _ => ?_
  exact KeepsHolds.ite (fun _ => KeepsHolds.refl s) fun _ => ports (offerForward_portsOnly s .c f)

/-! ### The cycle event -/

theorem sendProbe_keepsHolds (n : Nat) : KeepsHolds s (sendProbe n s) :=
  KeepsHolds.ite (fun _ => isFrame_keepsHolds.trans (modifyCarrier_keepsHolds s n _)
    (isFrame_keepsHolds.ports (offerOwn_portsOnly _ .c _))) fun _ => KeepsHolds.refl s

theorem loseCarrier_keepsHolds (n : Nat) : KeepsHolds s (loseCarrier n s) :=
  KeepsHolds.ite (fun _ => leaveService_keepsHolds s n _ _ _ _) fun _ => KeepsHolds.refl s

theorem endTimedOut_keepsHolds (n : Nat) : KeepsHolds s (endTimedOut n s) := by
  unfold endTimedOut
  split
  · exact KeepsHolds.ite (fun _ => endUnaccepted_keepsHolds s n _ _ _) fun _ => KeepsHolds.refl s
  · exact KeepsHolds.refl s

theorem expireHoldLimit_keepsHolds (w : List WaitEntry) (n : Nat) : KeepsHolds s (expireHoldLimit w n s) :=
  KeepsHolds.ite (fun _ => trigger_keepsHolds s n _) fun _ => modifyCarrier_keepsHolds s n _

theorem holdLimitEvent_keepsHolds (n : Nat) : KeepsHolds s (holdLimitEvent n s) :=
  KeepsHolds.ite (fun _ => expireHoldLimit_keepsHolds s _ n) fun _ => KeepsHolds.refl s

theorem countSilence_keepsHolds (n : Nat) : KeepsHolds s (countSilence n s) :=
  KeepsHolds.ite (fun _ => modifyCarrier_keepsHolds s n _) fun _ => KeepsHolds.refl s

theorem countHoldIdle_keepsHolds (w : List WaitEntry) (n : Nat) : KeepsHolds s (countHoldIdle w n s) := by
  refine KeepsHolds.ite (fun _ => ?_) fun _ => KeepsHolds.refl s
  refine KeepsHolds.ite (fun _ => ?_) fun _ => modifyCarrier_keepsHolds s n _
  exact KeepsHolds.ite
    (fun _ => isFrame_keepsHolds.trans (modifyCarrier_keepsHolds s n _) (expireHoldLimit_keepsHolds _ w n))
    fun _ => modifyCarrier_keepsHolds s n _

theorem holdIdlePhase_keepsHolds (slots late : List Nat) : KeepsHolds s (holdIdlePhase slots late s) :=
  KeepsHolds.ite (fun _ => isFrame_keepsHolds.eachSlot (fun n u => countHoldIdle_keepsHolds u _ n) slots s)
    fun _ => KeepsHolds.refl s

theorem beatCycle_keepsHolds : KeepsHolds s (beatCycle s) :=
  isFrame_keepsHolds.trans
    (t := { s with cycle := s.cycle + 1, period := s.params.periodSelect, freeTick := s.freeTick + 1 })
    (keepsHolds_of_eq rfl rfl) (isFrame_keepsHolds.ports (offerOwn_portsOnly _ .c _))

theorem runCycle_keepsHolds (place : Nat → Config.LossTime) : KeepsHolds s (runCycle place s) := by
  have each := @IsFrame.eachSlot _ isFrame_keepsHolds
  have lose := fun l u => each (fun n u => loseCarrier_keepsHolds u n) l u
  unfold runCycle
  refine isFrame_keepsHolds.trans ?_ (lose _ _)
  refine isFrame_keepsHolds.trans ?_ (holdIdlePhase_keepsHolds _ _ _)
  refine isFrame_keepsHolds.trans ?_ (lose _ _)
  refine isFrame_keepsHolds.trans ?_ (each (fun n u => endTimedOut_keepsHolds u n) _ _)
  refine isFrame_keepsHolds.trans ?_ (each (fun n u => modifyCarrier_keepsHolds u n _) _ _)
  refine isFrame_keepsHolds.trans ?_ (lose _ _)
  refine isFrame_keepsHolds.trans ?_ (each (fun n u => sendProbe_keepsHolds u n) _ _)
  exact isFrame_keepsHolds.trans (beatCycle_keepsHolds s) (each (fun n u => countSilence_keepsHolds u n) _ _)

theorem cycleEvent_keepsHolds (place : Nat → Config.LossTime) : KeepsHolds s (cycleEvent place s) :=
  KeepsHolds.ite (fun _ => runCycle_keepsHolds s place) fun _ => KeepsHolds.refl s

/-! ### Every command -/

theorem exec_keepsHolds {i : Instr} {t : State} (h : exec i s = .next t) : KeepsHolds s t := by
  have taken := @IsFrame.takeFrame _ isFrame_keepsHolds
  have active := @IsFrame.whileActive _ isFrame_keepsHolds
  have ports {u v : State} (h : PortsOnly u v) : KeepsHolds u v := isFrame_keepsHolds.ports h
  cases i <;> cases h
  case powerOn => exact fun _ => holdsLawful_of_empty rfl
  case resetInputAssert => exact keepsHolds_of_eq rfl rfl
  case frameReceive p bs => exact active (fun u => ports (receiveBytes_portsOnly u p bs)) s
  case portCClassify => exact active (fun u => isFrame_keepsHolds.takeFront (fun f v => classifyC_keepsHolds v f) .c u) s
  case portDClassify => exact active (fun u => isFrame_keepsHolds.takeFront (fun f v => classifyD_keepsHolds v f) .d u) s
  case frameTransmitEnd p => exact active (fun u => ports (endTransmission_portsOnly u p)) s
  case moveReq r =>
    exact taken (fun u => forCarrier_frame u isFrame_keepsHolds (fun n v => takeMoveReq_keepsHolds v n r) _) _ _ s
  case cutbackAck a =>
    exact taken (fun u => forCarrier_frame u isFrame_keepsHolds (fun n v => takeAck_keepsHolds v n a) _) _ _ s
  case rejoin r =>
    exact taken (fun u => forCarrier_frame u isFrame_keepsHolds (fun n v => takeRejoin_keepsHolds v n r) _) _ _ s
  case route o => exact taken (fun u => handleRoute_keepsHolds u o) _ _ s
  case sectionLoad m => exact taken (fun u => handleSectionLoad_keepsHolds u m) _ _ s
  case zoneLoad m => exact taken (fun u => handleZoneLoad_keepsHolds u m) _ _ s
  case sectionOpen m => exact taken (fun u => handleSectionOpen_keepsHolds u m) _ _ s
  case sectionClose m => exact taken (fun u => handleSectionClose_keepsHolds u m) _ _ s
  case zoneOpen m => exact taken (fun u => handleZoneOpen_keepsHolds u m) _ _ s
  case zoneClose m => exact taken (fun u => handleZoneClose_keepsHolds u m) _ _ s
  case conflictAdd m => exact taken (fun u => handleConflictAdd_keepsHolds u m) _ _ s
  case conflictRemove m => exact taken (fun u => handleConflictRemove_keepsHolds u m) _ _ s
  case carrierAdmit m => exact taken (fun u => handleCarrierAdmit_keepsHolds u m) _ _ s
  case carrierRetire m => exact taken (fun u => handleCarrierRetire_keepsHolds u m) _ _ s
  case carrierClear m => exact taken (fun u => handleCarrierClear_keepsHolds u m) _ _ s
  case carrierRecall m => exact taken (fun u => handleCarrierRecall_keepsHolds u m) _ _ s
  case carrierQuery m => exact taken (fun u => handleCarrierQuery_keepsHolds u m) _ _ s
  case sectionQuery m => exact taken (fun u => ports (handleSectionQuery_portsOnly u m)) _ _ s
  case partQuery m => exact taken (fun u => ports (handlePartQuery_portsOnly u m)) _ _ s
  case paramsSet m => exact taken (fun u => handleParamsSet_keepsHolds u m) _ _ s
  case start m => exact taken (fun u => handleStart_keepsHolds u m) _ _ s
  case halt m => exact taken (fun u => handleHalt_keepsHolds u m) _ _ s
  case resetTraffic r => exact taken (fun u => handleReset_keepsHolds u _) _ _ s
  case resetFull r => exact taken (fun u => handleReset_keepsHolds u _) _ _ s
  case cycleEvent => exact active (fun u => cycleEvent_keepsHolds u _) s
  case probe n => exact active (fun u => sendProbe_keepsHolds u n) s
  case silenceLimit n => exact active (fun u => loseCarrier_keepsHolds u n) s
  case holdLimitExpiry n => exact active (fun u => holdLimitEvent_keepsHolds u n) s
  case cutbackTimeout n => exact active (fun u => endTimedOut_keepsHolds u n) s
  case syncByte p b => exact active (fun u => ports (receiveByte_portsOnly u p b)) s

/-- Settles O55: an idle step changes nothing, and a command runs on the state with the queue's rest, whose holds are the
same; each command's own handler keeps the law (`exec_keepsHolds`). -/
theorem stepKeepsHoldsLawful : Obligations.StepKeepsHoldsLawful := by
  intro s t h
  unfold step at h
  split at h
  · cases h; exact id
  · rename_i rest _
    exact isFrame_keepsHolds.trans (t := { s with pending := rest }) (keepsHolds_of_eq rfl rfl) (exec_keepsHolds _ h)

end Sys2Proof.Proofs
end

section
/-! A release (R61) and its report, and the trimming of a trail by releases, oldest first (R71). -/

namespace Sys2Proof.Proofs

open Sys2Proof Sys2Proof.Machine Sys2Proof.Laws

/-! ### A carrier's entry leaves a holder list -/

section

variable {slot sec : Nat} {s : State}

theorem zoneOf_of_sections {t : State} (h : t.sections = s.sections) (k : Nat) : t.zoneOf k = s.zoneOf k := by
  simp only [State.zoneOf, h]

/-- A carrier counts in a zone exactly where it holds a section of it (R59). -/
theorem countsIn_iff (hr : Rising s.holds) {z : Nat} :
    s.countsIn slot z = true ↔ ∃ k, s.zoneOf k = z ∧ s.holdsSection slot k = true := by
  simp only [State.countsIn, List.any_eq_true, Bool.and_eq_true, decide_eq_true_eq]
  constructor
  · rintro ⟨⟨k, h⟩, hm, hz, x, hx, hs⟩
    have hold : s.hold k = h := by simp only [State.hold, lookup_of_mem hr hm, Option.getD_some]
    refine ⟨k, hz, List.any_eq_true.mpr ⟨x, ?_, by simpa using hs⟩⟩
    rw [State.holders, hold]
    exact hx
  · rintro ⟨k, hz, hk⟩
    obtain ⟨x, hx, hs⟩ := List.any_eq_true.mp hk
    cases hl : lookup s.holds k with
    | none => simp [State.holders, State.hold, hl, HoldRecord.free] at hx
    | some h =>
      have hold : s.holders k = h.holders := by simp only [State.holders, State.hold, hl, Option.getD_some]
      exact ⟨(k, h), mem_of_lookup hl, hz, x, hold ▸ hx, by simpa using hs⟩

theorem rising_setHold (hr : Rising s.holds) (h : HoldRecord) : Rising (s.setHold sec h).holds := by
  unfold State.setHold
  split
  · exact rising_removeAt hr sec
  · exact rising_insertAt hr sec h

/-- The Hold Table without a carrier's entry on a section, the occupancies as they stand. -/
def withoutHold (slot sec : Nat) (s : State) : State :=
  s.setHold sec ⟨(s.hold sec).holders.filter (fun x => x.slot ≠ slot), (s.hold sec).direction⟩

/-- The zone that a carrier leaves with its hold on a section (R61). -/
def leftZone (slot sec : Nat) (s : State) : Option Nat :=
  if s.zoneOf sec ≠ 0 ∧ (withoutHold slot sec s).countsIn slot (s.zoneOf sec) = false then some (s.zoneOf sec) else none

theorem removeHolder_held (h : s.holdsSection slot sec = true) :
    removeHolder slot sec s =
      (match leftZone slot sec s with
        | some z => (withoutHold slot sec s).setOccupied z (s.occupied z - 1)
        | none => withoutHold slot sec s, leftZone slot sec s) := by
  have occupied : (withoutHold slot sec s).occupied (s.zoneOf sec) = s.occupied (s.zoneOf sec) :=
    occupied_setHold s sec _ _
  unfold removeHolder
  rw [if_pos h]
  change (if (decide (s.zoneOf sec ≠ 0) && !(withoutHold slot sec s).countsIn slot (s.zoneOf sec)) = true then
      ((withoutHold slot sec s).setOccupied (s.zoneOf sec)
        ((withoutHold slot sec s).occupied (s.zoneOf sec) - 1), some (s.zoneOf sec))
    else (withoutHold slot sec s, none)) = _
  rw [occupied]
  by_cases hz : s.zoneOf sec ≠ 0 ∧ (withoutHold slot sec s).countsIn slot (s.zoneOf sec) = false
  · rw [leftZone, if_pos hz, if_pos (by simpa using hz)]
  · rw [leftZone, if_neg hz, if_neg (by simpa using hz)]

theorem release_held (h : s.holdsSection slot sec = true) (requester : Option Nat) :
    release slot sec requester s =
      wake (.released sec (leftZone slot sec s)) requester (removeHolder slot sec s).1 := by
  unfold release
  rw [if_pos h, removeHolder_held h]

/-- The Hold Table after a carrier's entry has left, apart from the occupancies. -/
theorem removeHolder_withoutHold (h : s.holdsSection slot sec = true) :
    ∃ u, (u = withoutHold slot sec s ∨ ∃ z n, u = (withoutHold slot sec s).setOccupied z n) ∧
      (removeHolder slot sec s).1 = u := by
  rw [removeHolder_held h]
  cases leftZone slot sec s with
  | none => exact ⟨_, .inl rfl, rfl⟩
  | some z => exact ⟨_, .inr ⟨z, _, rfl⟩, rfl⟩

theorem removeHolder_holds (h : s.holdsSection slot sec = true) :
    (removeHolder slot sec s).1.holds = (withoutHold slot sec s).holds := by
  obtain ⟨u, hu, eq⟩ := removeHolder_withoutHold h
  rw [eq]
  rcases hu with rfl | ⟨z, n, rfl⟩
  · rfl
  · exact setOccupied_holds _ _ _

theorem removeHolder_frame (slot sec : Nat) (s : State) :
    let u := (removeHolder slot sec s).1
    u.carriers = s.carriers ∧ u.waits = s.waits ∧ u.portC = s.portC ∧ u.portD = s.portD := by
  by_cases h : s.holdsSection slot sec = true
  · obtain ⟨u, hu, eq⟩ := removeHolder_withoutHold h
    rw [eq]
    rcases hu with rfl | ⟨z, n, rfl⟩ <;> simp [withoutHold]
  · unfold removeHolder
    rw [if_neg h]
    exact ⟨rfl, rfl, rfl, rfl⟩

/-- What is left of a carrier's holds, and of every other's, when its entry leaves a holder list. -/
theorem holdStateOf_removeHolder (slot sec n k : Nat) (s : State) :
    (removeHolder slot sec s).1.holdStateOf n k = if n = slot ∧ k = sec then none else s.holdStateOf n k := by
  unfold State.holdStateOf
  rw [holders_removeHolder]
  by_cases hk : k = sec
  · subst hk
    simp only [if_true, and_true]
    rw [List.find?_filter]
    by_cases hn : n = slot
    · subst hn
      simp only [if_true, Option.map_eq_none_iff, List.find?_eq_none]
      exact fun h _ => by simp
    · rw [if_neg hn]
      refine congrArg (fun p => Option.map _ ((s.holders k).find? p)) (funext fun h => ?_)
      by_cases hs : h.slot = n <;> simp [hs, hn]
  · rw [if_neg hk, if_neg fun h => hk h.2]

/-- The zone is left exactly where the carrier holds none of its sections any more. -/
theorem leftZone_eq (hr : Rising s.holds) (h : s.holdsSection slot sec = true) :
    ((s.zoneOf sec ≠ 0 ∧ ∀ k, s.zoneOf k = s.zoneOf sec → (removeHolder slot sec s).1.holdsSection slot k = false) →
      leftZone slot sec s = some (s.zoneOf sec)) ∧
    ((s.zoneOf sec = 0 ∨ ∃ k, s.zoneOf k = s.zoneOf sec ∧ (removeHolder slot sec s).1.holdsSection slot k = true) →
      leftZone slot sec s = none) := by
  have counts : (withoutHold slot sec s).countsIn slot (s.zoneOf sec) = true ↔
      ∃ k, s.zoneOf k = s.zoneOf sec ∧ (removeHolder slot sec s).1.holdsSection slot k = true := by
    have rising : Rising (withoutHold slot sec s).holds := rising_setHold hr _
    rw [countsIn_iff rising]
    refine exists_congr fun k => and_congr ?_ ?_
    · have zone : (withoutHold slot sec s).zoneOf k = s.zoneOf k := zoneOf_of_sections (setHold_sections s sec _) k
      rw [zone]
    · simp only [State.holdsSection, holders_of_holds (removeHolder_holds h)]
  constructor
  · rintro ⟨hz, none⟩
    refine if_pos ⟨hz, ?_⟩
    rw [← Bool.not_eq_true, counts]
    rintro ⟨k, hk, hh⟩
    rw [none k hk] at hh
    cases hh
  · intro hs
    refine if_neg fun ⟨hz, hc⟩ => ?_
    rcases hs with hs | hs
    · exact hz hs
    · rw [counts.mpr hs] at hc
      cases hc

theorem occupied_removeHolder (h : s.holdsSection slot sec = true) (z : Nat) :
    (removeHolder slot sec s).1.occupied z = if leftZone slot sec s = some z then s.occupied z - 1 else s.occupied z := by
  have same (k : Nat) : (withoutHold slot sec s).occupied k = s.occupied k := occupied_setHold s sec _ _
  rw [removeHolder_held h]
  cases hl : leftZone slot sec s with
  | none => exact (same z).trans (if_neg (by simp)).symm
  | some y =>
    change ((withoutHold slot sec s).setOccupied y (s.occupied y - 1)).occupied z = _
    rw [occupied_setOccupied, same]
    by_cases hz : z = y
    · rw [if_pos hz, if_pos (by rw [hz]), hz]
    · rw [if_neg hz, if_neg fun e => hz (Option.some.inj e).symm]

theorem leftZone_eq_some {z : Nat} (h : leftZone slot sec s = some z) : z = s.zoneOf sec ∧ z ≠ 0 := by
  unfold leftZone at h
  split at h
  · rename_i hz
    cases h
    exact ⟨rfl, hz.1⟩
  · cases h

/-- A release before its report, as R61 gives it. -/
theorem removeHolder_gone (hr : Rising s.holds) (h : s.holdsSection slot sec = true) :
    HoldGone slot sec s (removeHolder slot sec s).1 := by
  obtain ⟨carriers, waits, portC, portD⟩ := removeHolder_frame slot sec s
  obtain ⟨leaves, stays⟩ := leftZone_eq hr h
  have holders := (holders_removeHolder s slot sec sec).trans (if_pos rfl)
  constructor
  · exact holders
  · rw [holders, hold_of_holds (removeHolder_holds h), withoutHold, hold_setHold, if_pos rfl]
    change _ = if (s.hold sec).holders.filter _ = [] then _ else _
    split <;> rfl
  · intro k hk
    rw [hold_of_holds (removeHolder_holds h), withoutHold, hold_setHold, if_neg hk]
  · intro hz none
    rw [occupied_removeHolder h, leaves ⟨hz, none⟩, if_pos rfl]
  · intro some
    rw [occupied_removeHolder h, stays (.inr some), if_neg (by simp)]
  · intro z hz
    rw [occupied_removeHolder h, if_neg fun e => ?_]
    obtain ⟨rfl, h0⟩ := leftZone_eq_some e
    rcases hz with hz | hz
    · exact h0 hz
    · exact hz rfl
  · exact carriers
  · exact waits
  · exact portC
  · exact portD
  · exact removeHolder_trafficOnly s slot sec

/-- Another carrier is not touched where an entry leaves a holder list. -/
theorem removeHolder_untouched {n : Nat} (h : n ≠ slot) : Untouched n s (removeHolder slot sec s).1 := by
  obtain ⟨carriers, waits, -, -⟩ := removeHolder_frame slot sec s
  exact ⟨by rw [carriers], fun k => by rw [holdStateOf_removeHolder, if_neg fun e => h e.1],
    by simp only [State.waitOf, waits]⟩

end

/-! ### What a release leaves -/

/-- A carrier has given a section back at its own request (R61, R105): its context and its wait stand, the hold is gone,
its other holds stand, and carriers that wait for nothing are not touched. -/
structure GivenBack (slot sec : Nat) (s t : State) : Prop where
  context : lookup t.carriers slot = lookup s.carriers slot
  wait : t.waitOf slot = s.waitOf slot
  states : ∀ k, t.holdStateOf slot k = if k = sec then none else s.holdStateOf slot k
  bystanders : ∀ n, n ≠ slot → s.waitOf n = none → Untouched n s t
  notices : NoProgress s t
  traffic : TrafficOnly s t

theorem release_givenBack (slot sec : Nat) (s : State) : GivenBack slot sec s (release slot sec (some slot) s) := by
  cases h : s.holdsSection slot sec with
  | false =>
    rw [release_notHeld s slot sec _ h]
    refine ⟨rfl, rfl, fun k => ?_, fun n _ _ => Untouched.refl n s, composes_noProgress.refl s, TrafficOnly.refl s⟩
    split
    · rename_i hk
      rw [holdsSection_eq_isSome, Option.isSome_eq_false_iff, Option.isNone_iff_eq_none] at h
      rw [hk, h]
    · rfl
  | true =>
    obtain ⟨carriers, waits, -, portD⟩ := removeHolder_frame slot sec s
    have own : Untouched slot (removeHolder slot sec s).1 (release slot sec (some slot) s) := by
      rw [release_held h]
      exact wake_untouched (.inr (.inr rfl)) _
    refine ⟨?_, ?_, fun k => ?_, fun n hn hw => ?_, ?_, release_trafficOnly s slot sec _⟩
    · rw [own.context, carriers]
    · rw [own.wait]; simp only [State.waitOf, waits]
    · rw [own.holds, holdStateOf_removeHolder]; simp only [true_and]
    · have removed : Untouched n s (removeHolder slot sec s).1 := removeHolder_untouched hn
      rw [release_held h]
      exact (isFrame_untouched n).trans removed (wake_untouched (.inl (removed.wait.trans hw)) _)
    · rw [release_held h]
      exact composes_noProgress.trans (noProgress_of_eq portD) (wake_noProgress _ _ _)

theorem GivenBack.carrier {slot sec : Nat} {s t : State} (h : GivenBack slot sec s t) :
    t.carrier slot = s.carrier slot := by
  simp only [State.carrier, h.context]

theorem GivenBack.admitted {slot sec : Nat} {s t : State} (h : GivenBack slot sec s t) :
    t.admitted slot = s.admitted slot := by
  simp only [State.admitted, h.context]

/-! ### How often a NOTICE PROGRESS is offered -/

/-- Frames have joined the outbound queue of Port D, and unless the queue is full this one stands among them so often. -/
def Told (f : Frame) (n : Nat) (s t : State) : Prop :=
  ∃ l, t.portD.outbound = s.portD.outbound ++ l ∧
    (t.portD.outbound.length < 16 → l.filter (fun g => g = f) = List.replicate n f)

section

variable {f : Frame} {n m : Nat} {s t u : State}

theorem Told.trans (h : Told f n s t) (k : Told f m t u) : Told f (n + m) s u := by
  obtain ⟨l, hl, hn⟩ := h
  obtain ⟨l', hl', hm⟩ := k
  refine ⟨l ++ l', by rw [hl', hl, List.append_assoc], fun hu => ?_⟩
  have ht : t.portD.outbound.length < 16 := by
    rw [hl', List.length_append] at hu
    omega
  rw [List.filter_append, hn ht, hm hu, List.replicate_append_replicate]

theorem told_of_noProgress (hf : f.body.head? = some 0x07) (h : NoProgress s t) : Told f 0 s t := by
  obtain ⟨l, hl, hne⟩ := h
  refine ⟨l, hl, fun _ => List.filter_eq_nil_iff.mpr fun g hg e => hne g hg ?_⟩
  rw [of_decide_eq_true e, hf]

theorem told_offerOwn (f : Frame) (s : State) : Told f 1 s (offerOwn .d f s) := by
  unfold Told
  rw [portD_offerOwn]
  split
  · exact ⟨[f], rfl, fun _ => by simp⟩
  · rename_i h
    exact ⟨[], (List.append_nil _).symm, fun h' => absurd h' h⟩

theorem Told.appended (h : Told f n s t) (hl : t.portD.outbound.length < 16) :
    (appended .d s t).filter (fun g => g = f) = List.replicate n f := by
  obtain ⟨l, hl', hn⟩ := h
  change (t.portD.outbound.drop s.portD.outbound.length).filter _ = _
  rw [hl', List.drop_append_of_le_length (le_refl _), List.drop_length, List.nil_append, hn hl]

end

/-! ### One trail entry less -/

section

variable {slot : Nat} {s t : State}

theorem modifyCarrier_congr {f g : Carrier → Carrier} (h : f (s.carrier slot) = g (s.carrier slot)) :
    s.modifyCarrier slot f = s.modifyCarrier slot g := by
  unfold State.modifyCarrier
  unfold State.carrier at h
  cases hl : lookup s.carriers slot with
  | none => rfl
  | some c =>
    rw [hl] at h
    exact congrArg (fun c => { s with carriers := insertAt s.carriers slot c }) h

theorem carrier_modifyCarrier_same (ha : s.admitted slot = true) (f : Carrier → Carrier) :
    (s.modifyCarrier slot f).carrier slot = f (s.carrier slot) := by
  rw [carrier_modifyCarrier, if_pos ⟨rfl, ha⟩]

end

/-- The oldest trail entry has been given back, the release not counted yet (R71). -/
def trimRelease (slot : Nat) (e : RouteEntry) (s : State) : State :=
  release slot e.sec (some slot) (s.modifyCarrier slot (fun c => { c with trail := c.trail.tail }))

/-- The count of releases after one more (R71). -/
def countedReleases (progress releases : Nat) : Nat :=
  if progress = 0 then releases else if releases + 1 < progress then releases + 1 else 0

/-- How many of NOTICE PROGRESS one more release brings (R71). -/
def dueNotices (progress releases : Nat) : Nat := if progress ≠ 0 ∧ progress ≤ releases + 1 then 1 else 0

section

variable {slot : Nat} {e : RouteEntry} {rest : List RouteEntry} {s : State}

theorem trimRelease_givenBack (slot : Nat) (e : RouteEntry) (s : State) :
    GivenBack slot e.sec (s.modifyCarrier slot (fun c => { c with trail := c.trail.tail })) (trimRelease slot e s) :=
  release_givenBack slot e.sec _

theorem carrier_trimRelease (ha : s.admitted slot = true) :
    (trimRelease slot e s).carrier slot = { s.carrier slot with trail := (s.carrier slot).trail.tail } := by
  rw [(trimRelease_givenBack slot e s).carrier, carrier_modifyCarrier_same ha]

theorem admitted_trimRelease (n : Nat) (hn : n = slot) : (trimRelease slot e s).admitted n = s.admitted n := by
  rw [hn, (trimRelease_givenBack slot e s).admitted, admitted_modifyCarrier]

theorem noticeProgress_eq (slot : Nat) (u : State) :
    noticeProgress slot u =
      offerOwn .d (progressNotice u slot (u.carrier slot).head (u.carrier slot).headSection) u := rfl

/-- The oldest entry of a trail is released, and the release is counted (R71). -/
theorem trimOne_cons (ha : s.admitted slot = true) (h : (s.carrier slot).trail = e :: rest) :
    trimOne slot s =
      let c := s.carrier slot
      let u := trimRelease slot e s
      if c.params.progress = 0 then u
      else if c.releases + 1 < c.params.progress then u.modifyCarrier slot (fun c => { c with releases := c.releases + 1 })
      else (offerOwn .d (progressNotice u slot c.head c.headSection) u).modifyCarrier slot
        (fun c => { c with releases := 0 }) := by
  have tail : s.modifyCarrier slot (fun c => { c with trail := rest }) =
      s.modifyCarrier slot (fun c => { c with trail := c.trail.tail }) :=
    modifyCarrier_congr (by rw [h]; rfl)
  have carrier := carrier_trimRelease (e := e) ha
  unfold trimOne
  rw [h]
  dsimp only
  rw [tail]
  change (if ((trimRelease slot e s).carrier slot).params.progress = 0 then trimRelease slot e s
    else if ((trimRelease slot e s).carrier slot).releases + 1 < ((trimRelease slot e s).carrier slot).params.progress then
      (trimRelease slot e s).modifyCarrier slot (fun c => { c with releases := c.releases + 1 })
    else (noticeProgress slot (trimRelease slot e s)).modifyCarrier slot (fun c => { c with releases := 0 })) = _
  rw [noticeProgress_eq, carrier]

end

/-- The sections `gone` have been given back (R71): they are not held, the carrier's other holds stand, the releases are
counted, and NOTICE PROGRESS has been offered as often as the interval was reached. -/
structure GaveBack (slot : Nat) (gone : List RouteEntry) (head headSection : Nat) (s v : State) : Prop where
  states : ∀ k, v.holdStateOf slot k = if k ∈ gone.map (fun e => e.sec) then none else s.holdStateOf slot k
  uncounted : (s.carrier slot).params.progress = 0 → (v.carrier slot).releases = (s.carrier slot).releases
  counted : (s.carrier slot).releases < (s.carrier slot).params.progress →
    (v.carrier slot).releases = ((s.carrier slot).releases + gone.length) % (s.carrier slot).params.progress
  notices : (s.carrier slot).releases < (s.carrier slot).params.progress →
    Told (progressNotice s slot head headSection)
      (((s.carrier slot).releases + gone.length) / (s.carrier slot).params.progress) s v

theorem GaveBack.trailGivenBack {slot head headSection count : Nat} {trail : List RouteEntry} {s v : State}
    (h : GaveBack slot (trailTrimmed trail count) head headSection s v) :
    TrailGivenBack slot trail head headSection count s v where
  released e he := by
    rw [holdsSection_eq_isSome, h.states, if_pos (List.mem_map_of_mem he)]
    rfl
  kept sec hs := by
    rw [h.states, if_neg]
    intro hm
    obtain ⟨e, he, rfl⟩ := List.mem_map.mp hm
    exact hs e he rfl
  uncounted := h.uncounted
  counted := h.counted
  notices hlt hl := (h.notices hlt).appended hl

/-- Trail entries have been given back, oldest first (R71): of the carrier's context only trail and count differ, what
was trimmed is not held, its other holds and its wait stand, and carriers that wait for nothing are not touched. -/
structure Trimmed (slot : Nat) (gone : List RouteEntry) (s t : State) : Prop where
  context : t.carrier slot =
    { s.carrier slot with trail := (s.carrier slot).trail.drop gone.length, releases := (t.carrier slot).releases }
  admitted : t.admitted slot = s.admitted slot
  wait : t.waitOf slot = s.waitOf slot
  states : ∀ k, t.holdStateOf slot k = if k ∈ gone.map (fun e => e.sec) then none else s.holdStateOf slot k
  bystanders : ∀ n, n ≠ slot → s.waitOf n = none → Untouched n s t
  uncounted : (s.carrier slot).params.progress = 0 → (t.carrier slot).releases = (s.carrier slot).releases
  counted : (s.carrier slot).releases < (s.carrier slot).params.progress →
    (t.carrier slot).releases = ((s.carrier slot).releases + gone.length) % (s.carrier slot).params.progress
  notices : (s.carrier slot).releases < (s.carrier slot).params.progress →
    Told (progressNotice s slot (s.carrier slot).head (s.carrier slot).headSection)
      (((s.carrier slot).releases + gone.length) / (s.carrier slot).params.progress) s t
  traffic : TrafficOnly s t

section

variable {slot : Nat} {e : RouteEntry} {rest gone : List RouteEntry} {s t u : State}

theorem trimmed_nil (slot : Nat) (s : State) : Trimmed slot [] s s where
  context := rfl
  admitted := rfl
  wait := rfl
  states _ := (if_neg List.not_mem_nil).symm
  bystanders n _ _ := Untouched.refl n s
  uncounted _ := rfl
  counted h := (Nat.mod_eq_of_lt h).symm
  notices h := by
    rw [List.length_nil, Nat.add_zero, Nat.div_eq_of_lt h]
    exact told_of_noProgress rfl (composes_noProgress.refl s)
  traffic := TrafficOnly.refl s

/-- A release has been counted (R71): the count is one more, or 0 again with NOTICE PROGRESS. -/
structure Counted (slot : Nat) (u t : State) : Prop where
  context : t.carrier slot =
    { u.carrier slot with
      releases := countedReleases (u.carrier slot).params.progress (u.carrier slot).releases }
  admitted : t.admitted slot = u.admitted slot
  holds : t.holds = u.holds
  waits : t.waits = u.waits
  others : ∀ n, n ≠ slot → lookup t.carriers n = lookup u.carriers n
  notices : Told (progressNotice u slot (u.carrier slot).head (u.carrier slot).headSection)
    (dueNotices (u.carrier slot).params.progress (u.carrier slot).releases) u t
  traffic : TrafficOnly u t

theorem told_of_portD {f : Frame} (h : t.portD = s.portD) (hf : f.body.head? = some 0x07) : Told f 0 s t :=
  told_of_noProgress hf (noProgress_of_eq h)

/-- Counting writes the count, and offers the notice first where it is due. -/
theorem counted_modifyCarrier {n : Nat} {v : State} (ha : u.admitted slot = true) (hv : PortsOnly u v)
    (hn : countedReleases (u.carrier slot).params.progress (u.carrier slot).releases = n)
    (told : Told (progressNotice u slot (u.carrier slot).head (u.carrier slot).headSection)
      (dueNotices (u.carrier slot).params.progress (u.carrier slot).releases) u v) :
    Counted slot u (v.modifyCarrier slot (fun c => { c with releases := n })) := by
  have carriers := hv.traffic.carriers
  have admitted := admitted_eq_of_carriers carriers slot
  constructor
  · rw [carrier_modifyCarrier_same (admitted.trans ha), carrier_eq_of_carriers carriers, hn]
  · rw [admitted_modifyCarrier, admitted]
  · rw [modifyCarrier_holds, hv.traffic.holds]
  · rw [modifyCarrier_waits, hv.traffic.waits]
  · exact fun k hk => by rw [lookup_modifyCarrier_other _ hk, carriers]
  · exact told.trans (told_of_portD (modifyCarrier_portD _ _ _) rfl)
  · exact TrafficOnly.trans (PortsOnly.trafficOnly hv) (modifyCarrier_trafficOnly v slot _)

theorem trimOne_counted (ha : s.admitted slot = true) (h : (s.carrier slot).trail = e :: rest) :
    Counted slot (trimRelease slot e s) (trimOne slot s) := by
  have carrier := carrier_trimRelease (e := e) ha
  have ha' : (trimRelease slot e s).admitted slot = true := (admitted_trimRelease slot rfl).trans ha
  rw [trimOne_cons ha h]
  dsimp only
  split
  · rename_i hp
    refine ⟨?_, rfl, rfl, rfl, fun _ _ => rfl, ?_, TrafficOnly.refl _⟩
    · rw [carrier, countedReleases, if_pos hp]
    · rw [dueNotices, carrier, if_neg fun h => h.1 hp]
      exact told_of_portD rfl rfl
  · rename_i hp
    split
    · rename_i hr
      have next : (trimRelease slot e s).modifyCarrier slot (fun c => { c with releases := c.releases + 1 }) =
          (trimRelease slot e s).modifyCarrier slot
            (fun c => { c with releases := (s.carrier slot).releases + 1 }) :=
        modifyCarrier_congr (by rw [carrier])
      rw [next]
      refine counted_modifyCarrier ha' (PortsOnly.refl _) ?_ ?_
      · rw [carrier, countedReleases, if_neg hp, if_pos hr]
      · rw [dueNotices, carrier, if_neg fun h => absurd hr (Nat.not_lt.mpr h.2)]
        exact told_of_portD rfl rfl
    · rename_i hr
      refine counted_modifyCarrier ha' (offerOwn_portsOnly _ .d _) ?_ ?_
      · rw [carrier, countedReleases, if_neg hp, if_neg hr]
      · rw [dueNotices, carrier, if_pos ⟨hp, Nat.not_lt.mp hr⟩]
        exact told_offerOwn _ _

theorem progressNotice_congr (h : TrafficOnly s t) (hs : (t.carrier slot).station = (s.carrier slot).station)
    (hr : (t.carrier slot).routeNumber = (s.carrier slot).routeNumber) (head sec : Nat) :
    progressNotice t slot head sec = progressNotice s slot head sec := by
  simp only [progressNotice, noticeOf, h.control.params, State.partStation, h.board.stationStrap, hs, hr]

theorem trimOne_trimmed (ha : s.admitted slot = true) (h : (s.carrier slot).trail = e :: rest) :
    Trimmed slot [e] s (trimOne slot s) := by
  have back := trimRelease_givenBack slot e s
  have carrier := carrier_trimRelease (e := e) ha
  have counted := trimOne_counted ha h
  have traffic : TrafficOnly s (trimRelease slot e s) := TrafficOnly.trans (modifyCarrier_trafficOnly s slot _) back.traffic
  have context := counted.context
  rw [carrier] at context
  have notice : progressNotice (trimRelease slot e s) slot (s.carrier slot).head (s.carrier slot).headSection =
      progressNotice s slot (s.carrier slot).head (s.carrier slot).headSection :=
    progressNotice_congr traffic (by rw [carrier]) (by rw [carrier]) _ _
  constructor
  · rw [context]
    simp
  · rw [counted.admitted, admitted_trimRelease slot rfl]
  · simp only [State.waitOf, counted.waits]
    exact back.wait.trans (by simp only [State.waitOf, modifyCarrier_waits])
  · intro k
    rw [holdStateOf_of_holds counted.holds, back.states, holdStateOf_of_holds (modifyCarrier_holds s slot _)]
    simp
  · intro n hn hw
    have before : Untouched n s (s.modifyCarrier slot (fun c => { c with trail := c.trail.tail })) :=
      modifyCarrier_untouched _ hn
    have after : Untouched n (trimRelease slot e s) (trimOne slot s) :=
      ⟨counted.others n hn, fun k => holdStateOf_of_holds counted.holds n k,
        by simp only [State.waitOf, counted.waits]⟩
    exact (isFrame_untouched n).trans ((isFrame_untouched n).trans before
      (back.bystanders n hn (before.wait.trans hw))) after
  · intro hp
    rw [context, countedReleases]
    exact if_pos hp
  · intro hlt
    rw [context, countedReleases]
    have hp : (s.carrier slot).params.progress ≠ 0 := by omega
    dsimp only
    rw [if_neg hp, List.length_singleton]
    split
    · rename_i hr
      rw [Nat.mod_eq_of_lt hr]
    · rename_i hr
      rw [show (s.carrier slot).releases + 1 = (s.carrier slot).params.progress by omega, Nat.mod_self]
  · intro hlt
    have told := counted.notices
    rw [carrier] at told
    dsimp only at told
    rw [notice] at told
    have quiet : Told (progressNotice s slot (s.carrier slot).head (s.carrier slot).headSection) 0 s
        (trimRelease slot e s) :=
      told_of_noProgress rfl (composes_noProgress.trans (noProgress_of_eq (modifyCarrier_portD _ _ _)) back.notices)
    have due : dueNotices (s.carrier slot).params.progress (s.carrier slot).releases =
        ((s.carrier slot).releases + 1) / (s.carrier slot).params.progress := by
      rw [dueNotices]
      split
      · rw [show (s.carrier slot).releases + 1 = (s.carrier slot).params.progress by omega, Nat.div_self (by omega)]
      · rw [Nat.div_eq_of_lt (by omega)]
    have both := quiet.trans told
    rwa [Nat.zero_add, due] at both
  · exact TrafficOnly.trans traffic counted.traffic

/-- Trimming after trimming. -/
theorem Trimmed.trans {more : List RouteEntry} (h : Trimmed slot gone s t) (k : Trimmed slot more t u) :
    Trimmed slot (gone ++ more) s u := by
  have context := h.context
  have params : (t.carrier slot).params = (s.carrier slot).params := by rw [context]
  constructor
  · rw [k.context, context]
    simp
  · rw [k.admitted, h.admitted]
  · rw [k.wait, h.wait]
  · intro x
    rw [k.states, h.states]
    by_cases hx : x ∈ more.map (fun e => e.sec) <;> simp [hx]
  · intro n hn hw
    have first := h.bystanders n hn hw
    exact (isFrame_untouched n).trans first (k.bystanders n hn (first.wait.trans hw))
  · intro hp
    rw [k.uncounted (by rw [params, hp]), h.uncounted hp]
  · intro hlt
    have hp : 0 < (s.carrier slot).params.progress := by omega
    have first := h.counted hlt
    rw [k.counted (by rw [first, params]; exact Nat.mod_lt _ hp), first, params, Nat.mod_add_mod, List.length_append,
      Nat.add_assoc]
  · intro hlt
    have hp : 0 < (s.carrier slot).params.progress := by omega
    have first := h.counted hlt
    have notice : progressNotice t slot (t.carrier slot).head (t.carrier slot).headSection =
        progressNotice s slot (s.carrier slot).head (s.carrier slot).headSection := by
      rw [progressNotice_congr h.traffic (by rw [context]) (by rw [context]), context]
    have second := k.notices (by rw [first, params]; exact Nat.mod_lt _ hp)
    rw [notice, first, params] at second
    have both := (h.notices hlt).trans second
    have sum : (s.carrier slot).releases + (gone ++ more).length =
        ((s.carrier slot).releases + gone.length) % (s.carrier slot).params.progress + more.length +
          (s.carrier slot).params.progress *
            (((s.carrier slot).releases + gone.length) / (s.carrier slot).params.progress) := by
      have := Nat.div_add_mod ((s.carrier slot).releases + gone.length) (s.carrier slot).params.progress
      rw [List.length_append]
      omega
    rwa [sum, Nat.add_mul_div_left _ _ hp, Nat.add_comm]
  · exact TrafficOnly.trans h.traffic k.traffic

/-- Trimming one entry more comes after what has been trimmed. -/
theorem trimMany_succ (slot n : Nat) (s : State) : trimMany slot (n + 1) s = trimOne slot (trimMany slot n s) := by
  induction n generalizing s with
  | zero => rfl
  | succ n ih => exact ih (trimOne slot s)

theorem trimMany_trimmed (ha : s.admitted slot = true) {n : Nat} (hn : n ≤ (s.carrier slot).trail.length) :
    Trimmed slot ((s.carrier slot).trail.take n) s (trimMany slot n s) := by
  induction n with
  | zero => exact trimmed_nil slot s
  | succ n ih =>
    have before := ih (Nat.le_of_succ_le hn)
    have trail : ((trimMany slot n s).carrier slot).trail =
        (s.carrier slot).trail[n] :: (s.carrier slot).trail.drop (n + 1) := by
      rw [before.context, List.length_take, Nat.min_eq_left (Nat.le_of_succ_le hn)]
      exact List.drop_eq_getElem_cons hn
    rw [trimMany_succ, List.take_add_one, List.getElem?_eq_getElem hn]
    exact before.trans (trimOne_trimmed (before.admitted.trans ha) trail)

theorem trimTrail_eq (slot count : Nat) (s : State) :
    trimTrail slot count s = trimMany slot (trailTrimmed (s.carrier slot).trail count).length s := by
  rw [trailTrimmed, List.length_take, Nat.min_eq_left (Nat.sub_le _ _)]
  rfl

theorem trimTrail_trimmed (ha : s.admitted slot = true) (count : Nat) :
    Trimmed slot (trailTrimmed (s.carrier slot).trail count) s (trimTrail slot count s) := by
  have h := trimMany_trimmed ha (n := (s.carrier slot).trail.length - min count (min 3 (s.carrier slot).trail.length))
    (Nat.sub_le _ _)
  exact h

theorem drop_trailTrimmed (l : List RouteEntry) (count : Nat) :
    l.drop (trailTrimmed l count).length = trailCut l count := by
  rw [trailTrimmed, trailCut, List.length_take, Nat.min_eq_left (Nat.sub_le _ _)]

theorem Trimmed.gaveBack (h : Trimmed slot gone s t) :
    GaveBack slot gone (s.carrier slot).head (s.carrier slot).headSection s t :=
  ⟨h.states, h.uncounted, h.counted, h.notices⟩

theorem Trimmed.bystandersKept (h : Trimmed slot gone s t) : BystandersKept slot s t := fun n hn hw =>
  ⟨(h.bystanders n hn hw).carrier, (h.bystanders n hn hw).holds⟩

end

/-- Settles O18: a release is `removeHolder` and its report; trimming is the chain `trimMany`, each link `trimOne_cons`,
and what the links come to is `trimTrail_trimmed`. -/
theorem trimmingReleasesOldestFirst : Obligations.TrimmingReleasesOldestFirst := by
  refine ⟨fun slot sec requester s hr => ⟨fun h => release_notHeld s slot sec requester h, fun h => ?_⟩,
    fun slot count s ha => ?_⟩
  · obtain ⟨leaves, stays⟩ := leftZone_eq hr h
    refine ⟨_, removeHolder_gone hr h, fun hz => ?_, fun hz => ?_⟩
    · rw [release_held h, leaves hz]
    · rw [release_held h, stays hz]
  · intro c gone v
    have trimmed : Trimmed slot gone s v := trimTrail_trimmed ha count
    refine ⟨?_, trimmed.gaveBack.trailGivenBack, trimmed.bystandersKept, trimmed.traffic,
      fun i => trimMany slot i s, rfl, (trimTrail_eq slot count s).symm, fun i e he => ?_⟩
    · have context := trimmed.context
      rwa [drop_trailTrimmed] at context
    · intro d u
      obtain ⟨hi, rfl⟩ := List.getElem?_eq_some_iff.mp he
      have hlt : i < c.trail.length := hi.trans_le (List.length_take_le' _ _)
      have before := trimMany_trimmed ha hlt.le
      have trail : d.trail = gone[i] :: c.trail.drop (i + 1) := by
        have first : gone[i] = c.trail[i] := List.getElem_take
        rw [first, show d = _ from before.context]
        dsimp only
        rw [List.length_take, Nat.min_eq_left hlt.le]
        exact List.drop_eq_getElem_cons hlt
      have step := trimMany_succ slot i s
      rw [trimOne_cons (before.admitted.trans ha) trail] at step
      refine ⟨by rw [trail]; rfl, fun hp => ?_, fun hc => ?_, fun hp hc => ?_⟩
      · exact step.trans (if_pos hp)
      · exact step.trans ((if_neg (show ¬d.params.progress = 0 by omega)).trans (if_pos hc))
      · exact step.trans ((if_neg hp).trans (if_neg (Nat.not_lt.mpr hc)))

end Sys2Proof.Proofs
end

section
/-! The six checks of an attempt (R76), the test of the carrier's own trail (R57), and what an attempt that passes does
(R60, R77, R100). -/

namespace Sys2Proof.Proofs

open Sys2Proof Sys2Proof.Machine Sys2Proof.Laws

/-! ### The first element of a list that meets a test -/

section

variable {α β : Type} {l : List α}

theorem find?_eq_some_of_first {p : α → Bool} {i : Nat} {a : α} (ha : l[i]? = some a) (hp : p a = true)
    (before : ∀ j x, j < i → l[j]? = some x → p x = false) : l.find? p = some a := by
  obtain ⟨hi, rfl⟩ := List.getElem?_eq_some_iff.mp ha
  refine List.find?_eq_some_iff_getElem.mpr ⟨hp, i, hi, rfl, fun j hj => ?_⟩
  rw [before j l[j] hj (List.getElem?_eq_getElem _)]
  rfl

theorem findSome?_eq_some_of_first {f : α → Option β} {i : Nat} {a : α} {b : β} (ha : l[i]? = some a)
    (hf : f a = some b) (before : ∀ j x, j < i → l[j]? = some x → f x = none) : l.findSome? f = some b := by
  induction l generalizing i with
  | nil => simp at ha
  | cons x l ih =>
    cases i with
    | zero =>
      cases ha
      rw [List.findSome?_cons, hf]
    | succ i =>
      rw [List.findSome?_cons, before 0 x (Nat.succ_pos i) rfl]
      exact ih ha fun j y hj hy => before (j + 1) y (Nat.succ_lt_succ hj) hy

end

/-! ### The checks -/

section

variable {s : State} {slot : Nat} {e : RouteEntry}

theorem inTrail_iff {c : Carrier} {sec : Nat} : c.inTrail sec = true ↔ ∃ e ∈ c.trail, e.sec = sec := by
  simp [Carrier.inTrail]

theorem closed_iff {x : SectionEntry} {sec : Nat} (hx : lookup s.sections sec = some x) :
    s.closed sec = true ↔ x.isOpen = false ∨
      (s.zoneOf sec ≠ 0 ∧ ∀ z, lookup s.zones (s.zoneOf sec) = some z → z.isOpen = false) := by
  have zone : s.zoneIsOpen sec = false ↔
      s.zoneOf sec ≠ 0 ∧ ∀ z, lookup s.zones (s.zoneOf sec) = some z → z.isOpen = false := by
    rw [State.zoneIsOpen, Bool.or_eq_false_iff, decide_eq_false_iff_not]
    cases lookup s.zones (s.zoneOf sec) <;> simp
  have isOpen : s.sectionOpen sec = x.isOpen := by rw [State.sectionOpen, hx]; rfl
  rw [State.closed, Bool.not_eq_true', Bool.and_eq_false_iff, isOpen, zone]

theorem heldBack_iff {sec : Nat} :
    s.heldBack slot sec = true ↔ ∃ h ∈ s.holders sec, h.slot ≠ slot ∧ h.state ≠ .active := by
  simp [State.heldBack]

theorem hasRoom_iff {x : SectionEntry} (hx : lookup s.sections e.sec = some x) :
    s.hasRoom e = true ↔ (s.holders e.sec).length < x.data.capacity ∧
      (s.holders e.sec = [] ∨ (s.hold e.sec).direction = some e.direction) := by
  simp [State.hasRoom, State.capacityOf, hx]

/-- A conflict record applies to a holder of its other section (R16). -/
def Meets (s : State) (slot : Nat) (k : ConflictRecord) (h : Holder) : Prop :=
  h.slot ≠ slot ∧ k.condition.applies (s.wide slot) (s.wide h.slot) = true

theorem conflictHolder_eq_none {k : ConflictRecord} (h : ∀ x ∈ s.holders k.other, ¬Meets s slot k x) :
    conflictHolder s slot (s.wide slot) k = none :=
  Option.map_eq_none_iff.mpr (List.find?_eq_none.mpr fun x hx => by simpa [Meets] using h x hx)

theorem conflictHolder_eq_some {k : ConflictRecord} {j : Nat} {x : Holder} (hx : (s.holders k.other)[j]? = some x)
    (meets : Meets s slot k x) (before : ∀ j' x', j' < j → (s.holders k.other)[j']? = some x' → ¬Meets s slot k x') :
    conflictHolder s slot (s.wide slot) k = some x.slot := by
  have first := find?_eq_some_of_first (p := fun h => h.slot ≠ slot && k.condition.applies (s.wide slot) (s.wide h.slot))
    hx (by simpa [Meets] using meets) fun j' x' hj hx' => by simpa [Meets] using before j' x' hj hx'
  rw [conflictHolder, first]
  rfl

theorem zoneHasRoom_iff (hr : Rising s.holds) {sec : Nat} :
    s.zoneHasRoom slot sec = true ↔ ¬(s.zoneOf sec ≠ 0 ∧
      (¬∃ k, s.zoneOf k = s.zoneOf sec ∧ s.holdsSection slot k = true) ∧
      ∀ z, lookup s.zones (s.zoneOf sec) = some z → z.capacity ≤ s.occupied (s.zoneOf sec)) := by
  rw [← countsIn_iff hr, State.zoneHasRoom]
  cases s.countsIn slot (s.zoneOf sec)
  · cases lookup s.zones (s.zoneOf sec) <;> simp [or_iff_not_imp_left]
  · simp

end

/-! ### The attempt, check by check (R76, R57) -/

section

variable {s : State} {slot : Nat} {e : RouteEntry}

/-- An attempt outside the carrier's own trail on a section that is not closed: the obstacle, if there is one. -/
theorem attempt_open (ht : (s.carrier slot).inTrail e.sec = false) (hc : s.closed e.sec = false) :
    attempt s slot e = (obstacle s slot (s.wide slot) e).map (fun o => .blocked o.1 o.2) := by
  simp [attempt, ht, hc]

theorem obstacle_recall {wide : Bool} (h : s.heldBack slot e.sec = true) :
    obstacle s slot wide e = some (.recall, s.oldestHolder e.sec) := if_pos h

theorem obstacle_capacity {wide : Bool} (hb : s.heldBack slot e.sec = false) (h : s.hasRoom e = false) :
    obstacle s slot wide e = some (.capacity, s.oldestHolder e.sec) := by
  simp [obstacle, hb, h]

theorem obstacle_conflict {wide : Bool} {b : Nat} (hb : s.heldBack slot e.sec = false) (hr : s.hasRoom e = true)
    (h : conflictBlocker s slot wide e.sec = some b) : obstacle s slot wide e = some (.conflict, some b) := by
  simp [obstacle, hb, hr, h]

theorem obstacle_apart {wide : Bool} (hb : s.heldBack slot e.sec = false) (hr : s.hasRoom e = true)
    (h : conflictBlocker s slot wide e.sec = none) :
    obstacle s slot wide e = if s.zoneHasRoom slot e.sec = true then none else some (.zoneFull, none) := by
  cases hz : s.zoneHasRoom slot e.sec <;> simp [obstacle, hb, hr, h, hz]

theorem attempt_ownTrail (ht : (s.carrier slot).inTrail e.sec = true) :
    attempt s slot e = if s.soleHolder slot e.sec = true then none
      else some (.blocked .capacity (((s.holders e.sec).find? (fun h => h.slot ≠ slot)).map (fun h => h.slot))) :=
  if_pos ht

end

/-! ### What an attempt that passes does (R57, R60, R77, R100) -/

section

variable {s : State} {slot : Nat} {e : RouteEntry}

theorem trailWithout_eq_self {c : Carrier} {sec : Nat} (h : c.inTrail sec = false) :
    c.trail.filter (fun x => x.sec ≠ sec) = c.trail :=
  List.filter_eq_self.mpr fun x hx => by
    simpa using fun hs => Bool.false_ne_true (h.symm.trans (inTrail_iff.mpr ⟨x, hx, hs⟩))

theorem carrier_takeSection (ha : s.admitted slot = true) :
    (takeSection slot e s).carrier slot =
      { s.carrier slot with trail := (s.carrier slot).trail.filter (fun x => x.sec ≠ e.sec) } := by
  unfold takeSection
  split
  · rw [carrier_eq_of_carriers (setDirection_carriers _ _ _), carrier_modifyCarrier_same ha]
  · rename_i ht
    rw [carrier_eq_of_carriers (addHolder_frame slot e s).1, trailWithout_eq_self (by simpa using ht)]

theorem admitted_takeSection : (takeSection slot e s).admitted slot = s.admitted slot := by
  unfold takeSection
  split
  · rw [admitted_eq_of_carriers (setDirection_carriers _ _ _), admitted_modifyCarrier]
  · rw [admitted_eq_of_carriers (addHolder_frame slot e s).1]

theorem carrier_raiseLimit (ha : s.admitted slot = true) :
    (raiseLimit slot e s).carrier slot =
      { s.carrier slot with
        trail := (s.carrier slot).trail.filter (fun x => x.sec ≠ e.sec)
        limit := (s.carrier slot).limit + 1 } := by
  rw [raiseLimit, carrier_modifyCarrier_same (admitted_takeSection.trans ha), carrier_takeSection ha]

theorem admitted_raiseLimit : (raiseLimit slot e s).admitted slot = s.admitted slot := by
  rw [raiseLimit, admitted_modifyCarrier, admitted_takeSection]

/-- What the taking of a section leaves of the rest of the state. -/
theorem raiseLimit_frame (slot : Nat) (e : RouteEntry) (s : State) :
    (raiseLimit slot e s).waits = s.waits ∧ (raiseLimit slot e s).portC = s.portC ∧
      (raiseLimit slot e s).portD = s.portD ∧ ∀ n, n ≠ slot → (raiseLimit slot e s).carrier n = s.carrier n := by
  unfold raiseLimit takeSection
  split
  · obtain ⟨waits, -, portC, portD⟩ := setDirection_frame e.sec e.direction
      (s.modifyCarrier slot (fun c => { c with trail := c.trail.filter (fun x => x.sec ≠ e.sec) }))
    refine ⟨by simpa using waits, by simpa using portC, by simpa using portD, fun n hn => ?_⟩
    rw [carrier_modifyCarrier, if_neg fun h => hn h.1, carrier_eq_of_carriers (setDirection_carriers _ _ _),
      carrier_modifyCarrier, if_neg fun h => hn h.1]
  · obtain ⟨carriers, waits, portC, portD⟩ := addHolder_frame slot e s
    refine ⟨by simpa using waits, by simpa using portC, by simpa using portD, fun n hn => ?_⟩
    rw [carrier_modifyCarrier, if_neg fun h => hn h.1, carrier_eq_of_carriers carriers]

theorem hold_raiseLimit_trail (ht : (s.carrier slot).inTrail e.sec = true) (k : Nat) :
    (raiseLimit slot e s).hold k = (setDirection e.sec e.direction s).hold k := by
  rw [raiseLimit, hold_modifyCarrier, takeSection, if_pos ht, hold_setDirection, hold_setDirection]
  simp only [hold_modifyCarrier]

theorem hold_raiseLimit_new (ht : (s.carrier slot).inTrail e.sec = false) (k : Nat) :
    (raiseLimit slot e s).hold k = (addHolder slot e s).hold k := by
  rw [raiseLimit, hold_modifyCarrier, takeSection, if_neg (by simp [ht])]

theorem occupied_addHolder (z : Nat) :
    (addHolder slot e s).occupied z =
      if z = s.zoneOf e.sec ∧ s.zoneOf e.sec ≠ 0 ∧ s.countsIn slot (s.zoneOf e.sec) = false then s.occupied z + 1
      else s.occupied z := by
  unfold addHolder
  dsimp only
  rw [occupied_setHold]
  by_cases h : s.zoneOf e.sec ≠ 0 ∧ s.countsIn slot (s.zoneOf e.sec) = false
  · rw [if_pos (by simpa using h), occupied_setOccupied]
    by_cases hz : z = s.zoneOf e.sec
    · subst hz
      rw [if_pos rfl, if_pos ⟨rfl, h⟩]
    · rw [if_neg hz, if_neg fun x => hz x.1]
  · rw [if_neg (by simpa using h), if_neg fun x => h x.2]

theorem occupied_raiseLimit (z : Nat) :
    (raiseLimit slot e s).occupied z =
      if (s.carrier slot).inTrail e.sec = true then s.occupied z else (addHolder slot e s).occupied z := by
  have occupied (f : Carrier → Carrier) (t : State) : (t.modifyCarrier slot f).occupied z = t.occupied z := by
    simp only [State.occupied, modifyCarrier_occupancy]
  rw [raiseLimit, occupied, takeSection]
  split
  · rw [setDirection, occupied_setHold, occupied]
  · rfl

/-- On a section outside the own trail an attempt passes only where the new hold has the entry's direction (R60, R76). -/
theorem hold_addHolder_of_attempt (hs : s.TablesCanonical) (ht : (s.carrier slot).inTrail e.sec = false)
    (h : attempt s slot e = none) :
    (addHolder slot e s).hold e.sec = ⟨s.holders e.sec ++ [⟨slot, .active⟩], some e.direction⟩ := by
  have room := hasRoom_of_attempt ht h
  have direction : (s.hold e.sec).direction.getD e.direction = e.direction := by
    simp only [State.hasRoom, Bool.and_eq_true, Bool.or_eq_true, List.isEmpty_iff, decide_eq_true_eq] at room
    rcases room.2 with he | hd
    · cases hl : lookup s.holds e.sec with
      | none => simp [State.hold, hl, HoldRecord.free]
      | some x => exact absurd (by simpa [State.holders, State.hold, hl] using he) (hs.held _ (mem_of_lookup hl))
    · rw [hd]
      rfl
  rw [hold_addHolder, if_pos rfl, direction]
  rfl

theorem endWait_portD (n : Nat) (s : State) : (endWait n s).portD = s.portD := by
  unfold endWait
  split
  · rfl
  · simp

/-- The carrier waits for this very section. -/
def Wants (s : State) (slot sec : Nat) : Prop := (s.waitOf slot).map (fun w => w.wantedSection) = some sec

theorem acquire_wanted (h : Wants s slot e.sec) : acquire slot e s = endWait slot (raiseLimit slot e s) := by
  rw [acquire_eq, if_pos (by rw [State.waitOf, (raiseLimit_frame slot e s).1]; exact h)]

theorem acquire_unwanted (h : ¬Wants s slot e.sec) : acquire slot e s = raiseLimit slot e s := by
  rw [acquire_eq, if_neg (by rw [State.waitOf, (raiseLimit_frame slot e s).1]; exact h)]

/-- What an attempt that passes leaves as the taking of the section has it, whether a wait ends or not. -/
theorem acquire_raiseLimit (slot : Nat) (e : RouteEntry) (s : State) :
    (acquire slot e s).holds = (raiseLimit slot e s).holds ∧
      (acquire slot e s).occupancy = (raiseLimit slot e s).occupancy ∧ (acquire slot e s).portC = s.portC ∧
      (acquire slot e s).portD = s.portD ∧ ∀ n, n ≠ slot → (acquire slot e s).carrier n = s.carrier n := by
  obtain ⟨-, portC, portD, others⟩ := raiseLimit_frame slot e s
  by_cases h : Wants s slot e.sec
  · obtain ⟨holds, occupancy, portC'⟩ := endWait_frame slot (raiseLimit slot e s)
    rw [acquire_wanted h]
    exact ⟨holds, occupancy, portC'.trans portC, (endWait_portD _ _).trans portD,
      fun n hn => (carrier_endWait_other _ hn).trans (others n hn)⟩
  · rw [acquire_unwanted h]
    exact ⟨rfl, rfl, portC, portD, others⟩

theorem isSome_waitOf_of_wants (h : Wants s slot e.sec) : (s.waitOf slot).isSome = true := by
  unfold Wants at h
  cases hw : s.waitOf slot <;> simp_all

/-- The context after an attempt that passes (R57, R77, R100). -/
theorem carrier_acquire_wanted (ha : s.admitted slot = true) (h : Wants s slot e.sec) :
    (acquire slot e s).carrier slot =
      { s.carrier slot with
        trail := (s.carrier slot).trail.filter (fun x => x.sec ≠ e.sec)
        limit := (s.carrier slot).limit + 1
        passedOver := 0
        effectivePriority := (s.carrier slot).params.priority } := by
  have waiting : ((raiseLimit slot e s).waitOf slot).isSome = true := by
    rw [State.waitOf, (raiseLimit_frame slot e s).1]
    exact isSome_waitOf_of_wants h
  rw [acquire_wanted h, carrier_endWait_same waiting (admitted_raiseLimit.trans ha), carrier_raiseLimit ha]

theorem carrier_acquire_unwanted (ha : s.admitted slot = true) (h : ¬Wants s slot e.sec) :
    (acquire slot e s).carrier slot =
      { s.carrier slot with
        trail := (s.carrier slot).trail.filter (fun x => x.sec ≠ e.sec)
        limit := (s.carrier slot).limit + 1 } := by
  rw [acquire_unwanted h, carrier_raiseLimit ha]

theorem waits_acquire_wanted (h : Wants s slot e.sec) :
    (acquire slot e s).waits = s.waits.filter (fun w => w.slot ≠ slot) := by
  rw [acquire_wanted h, waits_endWait, (raiseLimit_frame slot e s).1]

theorem waits_acquire_unwanted (h : ¬Wants s slot e.sec) : (acquire slot e s).waits = s.waits := by
  rw [acquire_unwanted h, (raiseLimit_frame slot e s).1]

/-- The direction of a section of the own trail turns, and nothing else of the Hold Table (R57). -/
theorem hold_acquire_trail (ht : (s.carrier slot).inTrail e.sec = true) (k : Nat) :
    (acquire slot e s).hold k = (setDirection e.sec e.direction s).hold k := by
  rw [hold_of_holds (acquire_raiseLimit slot e s).1, hold_raiseLimit_trail ht]

/-- A section outside the own trail gets the carrier as its youngest holder (R60). -/
theorem hold_acquire_new (ht : (s.carrier slot).inTrail e.sec = false) (k : Nat) :
    (acquire slot e s).hold k = (addHolder slot e s).hold k := by
  rw [hold_of_holds (acquire_raiseLimit slot e s).1, hold_raiseLimit_new ht]

theorem occupied_acquire (z : Nat) :
    (acquire slot e s).occupied z =
      if (s.carrier slot).inTrail e.sec = true then s.occupied z else (addHolder slot e s).occupied z := by
  obtain ⟨-, occupancy, -⟩ := acquire_raiseLimit slot e s
  rw [← occupied_raiseLimit]
  simp only [State.occupied, occupancy]

end

/-- Settles O19: the checks are taken in the order of `attempt` and `obstacle`; what an attempt that passes does
is said field by field by the lemmas about `acquire`. -/
theorem attemptsFollowTheSixChecks : Obligations.AttemptsFollowTheSixChecks := by
  intro slot r s hs ha c own hs' zone stops inZone
  have ownIff : (s.carrier slot).inTrail r.sec = true ↔ own := inTrail_iff
  have out (h : ¬own) : (s.carrier slot).inTrail r.sec = false := by simpa using fun h' => h (ownIff.mp h')
  refine ⟨fun ho sole => ?_, fun ho i h hi hn before => ?_, fun x ho hx => ?_, fun passes held => ?_⟩
  · rw [attempt_ownTrail (ownIff.mpr ho), if_pos (soleHolder_iff.mpr sole)]
  · have first := find?_eq_some_of_first (p := fun h => h.slot ≠ slot) hi (by simpa using hn)
      fun j x hj hx => by simpa using before j x hj hx
    show attempt s slot r = _
    rw [attempt_ownTrail (ownIff.mpr ho), if_neg fun hsole =>
      hn (soleHolder_iff.mp hsole h (List.mem_of_getElem? hi)), first]
    rfl
  · intro closed heldBack room meets apart full
    have chain : s.chainOf r.sec = x.chain := chainOf_of_lookup hx
    have isClosed : s.closed r.sec = true ↔ closed := closed_iff hx
    have isBack : s.heldBack slot r.sec = true ↔ heldBack := heldBack_iff
    have isRoom : s.hasRoom r = true ↔ room := hasRoom_iff hx
    have notClosed (h : ¬closed) : s.closed r.sec = false := by simpa using fun h' => h (isClosed.mp h')
    have notBack (h : ¬heldBack) : s.heldBack slot r.sec = false := by simpa using fun h' => h (isBack.mp h')
    have blocker (h : apart) : conflictBlocker s slot (s.wide slot) r.sec = none :=
      List.findSome?_eq_none_iff.mpr fun k hk => conflictHolder_eq_none (h k (chain ▸ hk))
    have isFull : s.zoneHasRoom slot r.sec = true ↔ ¬full := zoneHasRoom_iff hs.holds
    refine ⟨fun hc => ?_, fun hc hb o rest first => ?_, fun hc hb hroom => ?_, fun hc hb hroom i j k h hk hh hm hi hj => ?_,
      fun hc hb hroom hap hfull => ?_, fun hc hb hroom hap hfull => ?_⟩
    · exact (if_neg (by simp [out ho])).trans (if_pos (isClosed.mpr hc))
    · show attempt s slot r = _
      have oldest : s.oldestHolder r.sec = some o.slot := by
        show ((s.holders r.sec).head?).map _ = _
        rw [show s.holders r.sec = o :: rest from first]
        rfl
      rw [attempt_open (out ho) (notClosed hc), obstacle_recall (isBack.mpr hb), oldest]
      rfl
    · show attempt s slot r = _
      rw [attempt_open (out ho) (notClosed hc), obstacle_capacity (notBack hb) (by simpa using fun h => hroom (isRoom.mp h))]
      rfl
    · show attempt s slot r = _
      have found : conflictBlocker s slot (s.wide slot) r.sec = some h.slot :=
        findSome?_eq_some_of_first (chain ▸ hk) (conflictHolder_eq_some hh hm hj)
          fun i' k' hi' hk' => conflictHolder_eq_none (hi i' k' hi' (chain ▸ hk'))
      rw [attempt_open (out ho) (notClosed hc), obstacle_conflict (notBack hb) (isRoom.mpr hroom) found]
      rfl
    · show attempt s slot r = _
      rw [attempt_open (out ho) (notClosed hc), obstacle_apart (notBack hb) (isRoom.mpr hroom) (blocker hap),
        if_neg fun h => isFull.mp h hfull]
      rfl
    · rw [attempt_open (out ho) (notClosed hc), obstacle_apart (notBack hb) (isRoom.mpr hroom) (blocker hap),
        if_pos (isFull.mpr hfull)]
      rfl
  · intro v ended
    obtain ⟨-, -, portC, portD, others⟩ := acquire_raiseLimit slot r s
    have counts : s.countsIn slot zone = true ↔ inZone := countsIn_iff hs.holds
    have trail : (v.carrier slot).trail = c.trail.filter (fun e => e.sec ≠ r.sec) := by
      by_cases h : Wants s slot r.sec
      · rw [show v = acquire slot r s from rfl, carrier_acquire_wanted ha h]
      · rw [show v = acquire slot r s from rfl, carrier_acquire_unwanted ha h]
    refine ⟨fun ho => ?_, fun ho => ?_, fun k hk => ?_, fun ho hz hin => ?_, fun h => ?_, fun z hz => ?_,
      fun _ => trail, fun ho => ?_, fun h => ?_, fun h => ?_, ?_, others, portC, portD, acquire_trafficOnly s slot r⟩
    · exact (hold_acquire_trail (ownIff.mpr ho) _).trans ((hold_setDirection s _ _ _).trans ((if_pos rfl).trans
        (if_neg (holders_ne_nil_of_holdsSection (held ho)))))
    · exact (hold_acquire_new (out ho) _).trans (hold_addHolder_of_attempt hs (out ho) passes)
    · by_cases ho : own
      · exact (hold_acquire_trail (ownIff.mpr ho) k).trans ((hold_setDirection s _ _ _).trans (if_neg hk))
      · exact (hold_acquire_new (out ho) k).trans ((hold_addHolder s _ _ _).trans (if_neg hk))
    · refine (occupied_acquire zone).trans ((if_neg (by simp [out ho])).trans ?_)
      exact (occupied_addHolder zone).trans (if_pos ⟨rfl, hz, by simpa using fun h => hin (counts.mp h)⟩)
    · refine (occupied_acquire zone).trans ?_
      split
      · rfl
      · rename_i ho
        refine (occupied_addHolder zone).trans (if_neg ?_)
        rintro ⟨-, hz, hc⟩
        rcases h with h | h | h
        · exact ho (ownIff.mpr h)
        · exact hz h
        · exact Bool.false_ne_true (hc.symm.trans (counts.mpr h))
    · refine (occupied_acquire z).trans ?_
      rw [occupied_addHolder, if_neg fun h : z = s.zoneOf r.sec ∧ _ => hz h.1, ite_self]
    · rw [trail, trailWithout_eq_self (out ho)]
    · have context : v.carrier slot = _ := carrier_acquire_wanted ha h
      rw [context]
      exact ⟨rfl, rfl, waits_acquire_wanted h⟩
    · have context : v.carrier slot = _ := carrier_acquire_unwanted ha h
      rw [context]
      exact ⟨rfl, rfl, waits_acquire_unwanted h⟩
    · by_cases h : Wants s slot r.sec
      · have context : v.carrier slot = _ := carrier_acquire_wanted ha h
        rw [context]
      · have context : v.carrier slot = _ := carrier_acquire_unwanted ha h
        rw [context]

end Sys2Proof.Proofs
end

section
/-! The end of a computation (R78, R91, R97, R98, R109, R110): the wait entry listed or updated, the walk, and the GRANT. -/

namespace Sys2Proof.Proofs

open Sys2Proof Sys2Proof.Machine Sys2Proof.Laws

/-! ### A wait entry is listed or updated (R97) -/

/-- A carrier's context when its wait begins or ends (R97, R100). -/
def freshWait (c : Carrier) : Carrier := { c with passedOver := 0, effectivePriority := c.params.priority }

/-- The wait list with an entry put in its carrier's place, or at the end (R97). -/
def listed (e : WaitEntry) (s : State) : List WaitEntry :=
  if (s.waitOf e.slot).isSome = true then s.waits.map (fun w => if w.slot = e.slot then e else w) else s.waits ++ [e]

/-- The state with the entry on its list, before any walk. -/
def listWait (e : WaitEntry) (s : State) : State :=
  if (s.waitOf e.slot).isSome = true then { s with waits := listed e s }
  else { s with waits := listed e s }.modifyCarrier e.slot freshWait

/-- The entry is new, or its blocker is: the walk of R109 is due (R97). -/
def WalkDue (e : WaitEntry) (s : State) : Prop := ∀ old, s.waitOf e.slot = some old → old.blocker ≠ e.blocker

/-- The walk is due and comes back to the carrier (R109). -/
def FindsCircle (e : WaitEntry) (s : State) (visited : List Nat) : Prop :=
  WalkDue e s ∧ ∃ n, e.blocker = some n ∧ deadlockWalk (listed e s) e.slot 8 n [] = some visited

/-- A deadlock has been found (R110). -/
def deadlocked (e : WaitEntry) (visited : List Nat) (s : State) : State :=
  noticeDeadlock e.slot e.wantedSection e.reason visited
    ((endWait e.slot s).modifyCarrier e.slot (fun c => { c with condition := .deadlock }))

section

variable {e : WaitEntry} {s : State}

theorem waits_listWait (e : WaitEntry) (s : State) : (listWait e s).waits = listed e s := by
  unfold listWait
  split
  · rfl
  · exact modifyCarrier_waits _ _ _

theorem listWait_frame (e : WaitEntry) (s : State) :
    (listWait e s).holds = s.holds ∧ (listWait e s).occupancy = s.occupancy ∧ (listWait e s).portC = s.portC ∧
      (listWait e s).portD = s.portD := by
  unfold listWait
  split <;> simp

theorem listWait_trafficOnly (e : WaitEntry) (s : State) : TrafficOnly s (listWait e s) := by
  have waits : TrafficOnly s { s with waits := listed e s } :=
    ⟨⟨rfl, rfl, rfl⟩, ⟨rfl, rfl, rfl, rfl, rfl, rfl⟩, ⟨rfl, rfl, rfl, rfl, rfl⟩⟩
  unfold listWait
  split
  · exact waits
  · exact TrafficOnly.trans waits (modifyCarrier_trafficOnly _ _ _)

theorem admitted_listWait (n : Nat) : (listWait e s).admitted n = s.admitted n := by
  unfold listWait
  split
  · rfl
  · exact admitted_modifyCarrier _ _ _ _

theorem carrier_listWait_waited (h : (s.waitOf e.slot).isSome = true) :
    (listWait e s).carrier e.slot = s.carrier e.slot := by
  rw [listWait, if_pos h]
  rfl

theorem carrier_listWait_new (ha : s.admitted e.slot = true) (h : ¬(s.waitOf e.slot).isSome = true) :
    (listWait e s).carrier e.slot = freshWait (s.carrier e.slot) := by
  rw [listWait, if_neg h]
  exact carrier_modifyCarrier_same (s := { s with waits := listed e s }) ha freshWait

/-- Whether listed anew or updated, the entry stands on the list afterwards. -/
theorem waitOf_listWait (e : WaitEntry) (s : State) : (listWait e s).waitOf e.slot = some e := by
  rw [State.waitOf, waits_listWait, listed]
  split
  · rename_i h
    obtain ⟨w, hw, hs⟩ := waitOf_isSome_iff.mp h
    have some : (s.waits.map (fun w => if w.slot = e.slot then e else w)).find? (fun w => w.slot = e.slot) ≠ none := by
      intro none
      have := List.find?_eq_none.mp none e (List.mem_map.mpr ⟨w, hw, if_pos hs⟩)
      simp at this
    obtain ⟨x, hx⟩ := Option.ne_none_iff_exists'.mp some
    obtain ⟨y, -, rfl⟩ := List.mem_map.mp (List.mem_of_find?_eq_some hx)
    have found := List.find?_some hx
    rw [hx]
    split at found <;> simp_all
  · rename_i h
    rw [List.find?_append, show s.waits.find? (fun w => w.slot = e.slot) = none by simpa [State.waitOf] using h]
    simp

/-- The other carriers' entries stand as they did. -/
theorem listed_others (e : WaitEntry) (s : State) :
    (listed e s).filter (fun w => w.slot ≠ e.slot) = s.waits.filter (fun w => w.slot ≠ e.slot) := by
  unfold listed
  split
  · rw [List.filter_map]
    induction s.waits with
    | nil => rfl
    | cons w l ih => by_cases h : w.slot = e.slot <;> simp_all
  · simp

theorem enterWait_due (h : WalkDue e s) : enterWait e s = walkFrom e (listWait e s) := by
  unfold enterWait listWait listed
  cases hw : s.waitOf e.slot with
  | none => rfl
  | some old => exact if_neg (h old hw).symm

theorem enterWait_standing (h : ¬WalkDue e s) : enterWait e s = (listWait e s, .waiting) := by
  simp only [WalkDue, not_forall, not_not] at h
  obtain ⟨old, hw, hb⟩ := h
  unfold enterWait listWait listed
  rw [hw]
  exact if_pos hb.symm

theorem walkFrom_circle {n : Nat} {visited : List Nat} (hb : e.blocker = some n)
    (h : deadlockWalk s.waits e.slot 8 n [] = some visited) : walkFrom e s = (deadlocked e visited s, .deadlock) := by
  have found : e.blocker.bind (fun b => deadlockWalk s.waits e.slot Config.walkVisits b []) = some visited := by
    rw [hb]
    exact h
  rw [walkFrom, found]
  rfl

theorem walkFrom_noCircle (h : ∀ n visited, e.blocker = some n → deadlockWalk s.waits e.slot 8 n [] ≠ some visited) :
    walkFrom e s = (s, .waiting) := by
  have none : e.blocker.bind (fun b => deadlockWalk s.waits e.slot Config.walkVisits b []) = none := by
    cases hb : e.blocker with
    | none => rfl
    | some n => exact Option.eq_none_iff_forall_ne_some.mpr fun visited => h n visited hb
  rw [walkFrom, none]

theorem enterWait_circle {visited : List Nat} (h : FindsCircle e s visited) :
    enterWait e s = (deadlocked e visited (listWait e s), .deadlock) := by
  obtain ⟨due, n, hb, walk⟩ := h
  rw [enterWait_due due]
  exact walkFrom_circle hb (by rwa [waits_listWait])

theorem enterWait_noCircle (h : ∀ visited, ¬FindsCircle e s visited) : enterWait e s = (listWait e s, .waiting) := by
  by_cases due : WalkDue e s
  · rw [enterWait_due due]
    refine walkFrom_noCircle fun n visited hb walk => h visited ⟨due, n, hb, ?_⟩
    rwa [waits_listWait] at walk
  · exact enterWait_standing due

end

/-! ### Notices -/

section

variable {s t : State}

theorem noticeOf_congr (h : TrafficOnly s t) (body : List Byte) : noticeOf t body = noticeOf s body := by
  simp only [noticeOf, State.partStation, h.control.params, h.board.stationStrap]

theorem offerOwn_portD_congr (h : t.portD = s.portD) (f : Frame) : (offerOwn .d f t).portD = (offerOwn .d f s).portD := by
  simp only [portD_offerOwn, h]

/-- A notice composed later goes to Port D as one of the state before would, where the port is the same. -/
theorem portD_notice (h : TrafficOnly s t) (hd : t.portD = s.portD) (code : Byte) (fields : List Byte) :
    (notice code fields t).portD = (offerOwn .d (noticeOf s (code :: fields)) s).portD := by
  rw [← noticeOf_congr h]
  exact offerOwn_portD_congr hd _

end

/-! ### What a deadlock does (R110) -/

section

variable {e : WaitEntry} {s : State} {visited : List Nat}

theorem notice_portC (code : Byte) (fields : List Byte) (s : State) : (notice code fields s).portC = s.portC :=
  offerOwn_otherPort s (p := .d) (q := .c) _ (by decide)

theorem deadlocked_frame (e : WaitEntry) (visited : List Nat) (s : State) :
    (deadlocked e visited s).holds = s.holds ∧ (deadlocked e visited s).occupancy = s.occupancy ∧
      (deadlocked e visited s).portC = s.portC ∧
      (deadlocked e visited s).waits = s.waits.filter (fun w => w.slot ≠ e.slot) := by
  obtain ⟨holds, occupancy, portC⟩ := endWait_frame e.slot s
  refine ⟨?_, ?_, (notice_portC _ _ _).trans ?_, ?_⟩
  · simp [deadlocked, noticeDeadlock, holds]
  · simp [deadlocked, noticeDeadlock, occupancy]
  · rw [modifyCarrier_portC, portC]
  · simp [deadlocked, noticeDeadlock, waits_endWait]

theorem deadlocked_trafficOnly (e : WaitEntry) (visited : List Nat) (s : State) : TrafficOnly s (deadlocked e visited s) :=
  TrafficOnly.trans (TrafficOnly.trans (endWait_trafficOnly s e.slot) (modifyCarrier_trafficOnly _ _ _))
    (PortsOnly.trafficOnly (notice_portsOnly _ _ _))

theorem carrier_deadlocked (ha : s.admitted e.slot = true) (hw : (s.waitOf e.slot).isSome = true) :
    (deadlocked e visited s).carrier e.slot = { freshWait (s.carrier e.slot) with condition := .deadlock } := by
  rw [deadlocked, noticeDeadlock, carrier_eq_of_carriers (notice_carriers _ _ _),
    carrier_modifyCarrier_same ((admitted_endWait _ _ _).trans ha), carrier_endWait_same hw ha]
  rfl

/-- NOTICE DEADLOCK goes to Port D as the state before has its queue and its parameters. -/
theorem deadlocked_portD {b : State} (hd : s.portD = b.portD) (ht : TrafficOnly b s) :
    (deadlocked e visited s).portD =
      (offerOwn .d (noticeOf b ([0x01, byte e.slot] ++ bytes2 e.wantedSection ++ [e.reason.code, byte visited.length] ++
        visited.map byte)) b).portD := by
  have traffic := TrafficOnly.trans ht (TrafficOnly.trans (endWait_trafficOnly s e.slot)
    (modifyCarrier_trafficOnly _ e.slot (fun c => { c with condition := .deadlock })))
  refine portD_notice traffic ?_ _ _
  rw [modifyCarrier_portD, endWait_portD, hd]

theorem waits_deadlocked_listWait (e : WaitEntry) (visited : List Nat) (s : State) :
    (deadlocked e visited (listWait e s)).waits = s.waits.filter (fun w => w.slot ≠ e.slot) := by
  obtain ⟨-, -, -, waits⟩ := deadlocked_frame e visited (listWait e s)
  rw [waits, waits_listWait, listed_others]

/-- A deadlock that the walk finds from a new or updated entry (R97, R110): the wait is over, and what the entry's making
wrote is what its end writes. -/
theorem deadlocked_listWait (ha : s.admitted e.slot = true) (visited : List Nat) :
    (deadlocked e visited (listWait e s)).waits = s.waits.filter (fun w => w.slot ≠ e.slot) ∧
      (deadlocked e visited (listWait e s)).carrier e.slot =
        { freshWait (s.carrier e.slot) with condition := .deadlock } ∧
      (deadlocked e visited (listWait e s)).portD =
        (offerOwn .d (noticeOf s ([0x01, byte e.slot] ++ bytes2 e.wantedSection ++ [e.reason.code, byte visited.length] ++
          visited.map byte)) s).portD := by
  have waiting : ((listWait e s).waitOf e.slot).isSome = true := by rw [waitOf_listWait]; rfl
  obtain ⟨-, -, -, portD⟩ := listWait_frame e s
  refine ⟨waits_deadlocked_listWait e visited s, ?_, deadlocked_portD portD (listWait_trafficOnly e s)⟩
  · rw [carrier_deadlocked ((admitted_listWait _).trans ha) waiting]
    by_cases hw : (s.waitOf e.slot).isSome = true
    · rw [carrier_listWait_waited hw]
    · rw [carrier_listWait_new ha hw]
      rfl

end

/-! ### The wait after the loop (R78, R98) -/

/-- What the wait's update leaves of the traffic. -/
structure WaitSettled (slot : Nat) (b v : State) : Prop where
  holds : v.holds = b.holds
  occupancy : v.occupancy = b.occupancy
  others : ∀ n, n ≠ slot → v.carrier n = b.carrier n
  admitted : v.admitted slot = b.admitted slot
  portC : v.portC = b.portC
  rest : TrafficOnly b v

section

variable {slot i sec : Nat} {reason : BlockReason} {blocker : Option Nat} {s : State}

theorem settleWait_circle {visited : List Nat} (h : FindsCircle ⟨slot, i, sec, reason, blocker⟩ s visited) :
    settleWait slot (some ⟨i, sec, .blocked reason blocker⟩) s =
      (deadlocked ⟨slot, i, sec, reason, blocker⟩ visited (listWait ⟨slot, i, sec, reason, blocker⟩ s), .deadlock) := by
  unfold settleWait
  simp only [enterWait_circle h]

theorem settleWait_noCircle (h : ∀ visited, ¬FindsCircle ⟨slot, i, sec, reason, blocker⟩ s visited) :
    settleWait slot (some ⟨i, sec, .blocked reason blocker⟩) s =
      (listWait ⟨slot, i, sec, reason, blocker⟩ s, .waiting) := by
  unfold settleWait
  simp only [enterWait_noCircle h]

theorem endWait_settled (slot : Nat) (s : State) : WaitSettled slot s (endWait slot s) := by
  obtain ⟨holds, occupancy, portC⟩ := endWait_frame slot s
  exact ⟨holds, occupancy, fun _ hn => carrier_endWait_other s hn, admitted_endWait _ _ _, portC, endWait_trafficOnly s slot⟩

theorem WaitSettled.trans {b u v : State} (h : WaitSettled slot b u) (k : WaitSettled slot u v) : WaitSettled slot b v where
  holds := k.holds.trans h.holds
  occupancy := k.occupancy.trans h.occupancy
  others n hn := (k.others n hn).trans (h.others n hn)
  admitted := k.admitted.trans h.admitted
  portC := k.portC.trans h.portC
  rest := TrafficOnly.trans h.rest k.rest

theorem listWait_settled (e : WaitEntry) (s : State) : WaitSettled e.slot s (listWait e s) := by
  obtain ⟨holds, occupancy, portC, -⟩ := listWait_frame e s
  refine ⟨holds, occupancy, fun n hn => ?_, admitted_listWait _, portC, listWait_trafficOnly e s⟩
  unfold listWait
  split
  · rfl
  · rw [carrier_modifyCarrier, if_neg fun h => hn h.1]
    rfl

theorem deadlocked_settled (e : WaitEntry) (visited : List Nat) (s : State) :
    WaitSettled e.slot s (deadlocked e visited s) := by
  obtain ⟨holds, occupancy, portC, -⟩ := deadlocked_frame e visited s
  refine ⟨holds, occupancy, fun n hn => ?_, ?_, portC, deadlocked_trafficOnly e visited s⟩
  · rw [deadlocked, noticeDeadlock, carrier_eq_of_carriers (notice_carriers _ _ _), carrier_modifyCarrier,
      if_neg fun h => hn h.1, carrier_endWait_other _ hn]
  · rw [deadlocked, noticeDeadlock, admitted_eq_of_carriers (notice_carriers _ _ _), admitted_modifyCarrier,
      admitted_endWait]

/-- What the wait's update can come to: the wait ended, a deadlock found from the entry, or the entry listed. -/
theorem settleWait_cases (slot : Nat) (stop : Option Stop) (s : State) :
    (∃ w, w ≠ .waiting ∧ settleWait slot stop s = (endWait slot s, w)) ∨
      (∃ e visited, e.slot = slot ∧ settleWait slot stop s = (deadlocked e visited (listWait e s), .deadlock)) ∨
      ∃ e, e.slot = slot ∧ settleWait slot stop s = (listWait e s, .waiting) := by
  rcases stop with _ | ⟨i, sec, _ | ⟨reason, blocker⟩⟩
  · exact .inl ⟨.clear, by decide, rfl⟩
  · exact .inl ⟨.closed, by decide, rfl⟩
  · by_cases circle : ∃ visited, FindsCircle ⟨slot, i, sec, reason, blocker⟩ s visited
    · obtain ⟨visited, circle⟩ := circle
      exact .inr (.inl ⟨_, visited, rfl, settleWait_circle circle⟩)
    · exact .inr (.inr ⟨_, rfl, settleWait_noCircle (not_exists.mp circle)⟩)

theorem settleWait_settled (slot : Nat) (stop : Option Stop) (s : State) :
    WaitSettled slot s (settleWait slot stop s).1 := by
  obtain ⟨w, -, eq⟩ | ⟨e, visited, rfl, eq⟩ | ⟨e, rfl, eq⟩ := settleWait_cases slot stop s
  all_goals rw [eq]
  · exact endWait_settled slot s
  · exact WaitSettled.trans (listWait_settled e s) (deadlocked_settled e visited _)
  · exact listWait_settled e s

/-- The wait has ended and nothing has been said about it (R100). -/
theorem endWait_ended (ha : s.admitted slot = true) :
    (endWait slot s).waits = s.waits.filter (fun w => w.slot ≠ slot) ∧
      ((s.waitOf slot).isSome = true → (endWait slot s).carrier slot = freshWait (s.carrier slot)) ∧
      (¬(s.waitOf slot).isSome = true → (endWait slot s).carrier slot = s.carrier slot) ∧
      (endWait slot s).portD = s.portD := by
  refine ⟨waits_endWait s slot, fun h => carrier_endWait_same h ha, fun h => ?_, endWait_portD _ _⟩
  rw [carrier_endWait ha, if_neg h, if_neg h]

end

/-! ### The computation and its GRANT (R91) -/

section

variable {slot : Nat} {s v : State} {w : WaitOutcome}

/-- The state after the acquisition loop of a computation, and the failure that ended the loop (R88). -/
def loopEnd (slot : Nat) (s : State) : LoopEnd := acquireLoop slot (s.carrier slot).route.length false s

theorem compute_eq (h : settleWait slot (loopEnd slot s).stop (loopEnd slot s).state = (v, w)) :
    compute slot s = ⟨v, limitGrant v (v.carrier slot) w, (loopEnd slot s).gained⟩ := by
  unfold loopEnd at h
  unfold compute
  simp only [h]
  rfl

theorem admitted_loopEnd : (loopEnd slot s).state.admitted slot = s.admitted slot :=
  (acquireLoop_actsFor slot _ _ s).admitted

theorem compute_settled (slot : Nat) (s : State) : WaitSettled slot (loopEnd slot s).state (compute slot s).state :=
  settleWait_settled slot (loopEnd slot s).stop (loopEnd slot s).state

/-- A computation ends the wait, whatever reason its GRANT has (R78, R98). -/
theorem compute_ends (ha : s.admitted slot = true)
    (h : compute slot s = ⟨endWait slot (loopEnd slot s).state,
      limitGrant (endWait slot (loopEnd slot s).state) ((endWait slot (loopEnd slot s).state).carrier slot) w,
      (loopEnd slot s).gained⟩) (hv : (compute slot s).state = v) :
    (v.waits = (loopEnd slot s).state.waits.filter (fun w => w.slot ≠ slot) ∧
      (((loopEnd slot s).state.waitOf slot).isSome = true →
        v.carrier slot = freshWait ((loopEnd slot s).state.carrier slot)) ∧
      (¬((loopEnd slot s).state.waitOf slot).isSome = true → v.carrier slot = (loopEnd slot s).state.carrier slot) ∧
      v.portD = (loopEnd slot s).state.portD) ∧
    (compute slot s).grant = limitGrant v (v.carrier slot) w := by
  have state : endWait slot (loopEnd slot s).state = v := (congrArg Computation.state h).symm.trans hv
  rw [state] at h
  refine ⟨?_, by rw [h]⟩
  rw [← state]
  exact endWait_ended (admitted_loopEnd.trans ha)

theorem condition_sendGrant (ha : s.admitted slot = true) (g : Grant) :
    ((sendGrant slot g s).carrier slot).condition =
      if g.reason = .reduced then .reduced else if g.reason = .waiting then .waiting
      else if g.reason = .deadlock then .deadlock else if g.reason = .closedAhead then .closedAhead
      else (s.carrier slot).condition := by
  rw [carrier_sendGrant_same ha]
  cases h : g.reason <;> rfl

end

section

variable {slot : Nat} {s : State}

/-- The end of a computation without a failed attempt (R78, R91). -/
theorem compute_unstopped (h : (loopEnd slot s).stop = none) :
    compute slot s = ⟨endWait slot (loopEnd slot s).state,
      limitGrant (endWait slot (loopEnd slot s).state) ((endWait slot (loopEnd slot s).state).carrier slot) .clear,
      (loopEnd slot s).gained⟩ :=
  compute_eq (by rw [h]; rfl)

/-- The end of a computation that a closed section stops (R98). -/
theorem compute_closed {i sec : Nat} (h : (loopEnd slot s).stop = some ⟨i, sec, .closed⟩) :
    compute slot s = ⟨endWait slot (loopEnd slot s).state,
      limitGrant (endWait slot (loopEnd slot s).state) ((endWait slot (loopEnd slot s).state).carrier slot) .closed,
      (loopEnd slot s).gained⟩ :=
  compute_eq (by rw [h]; rfl)

end

end Sys2Proof.Proofs
end

section
/-! How a MOVE_REQ comes in (R63 to R69): the frame is taken, the sequence is new, and the report is bad, an overrun, under
another route number, standing or good. Leaving service (R34, R35). -/

namespace Sys2Proof.Proofs

open Sys2Proof Sys2Proof.Machine Sys2Proof.Laws

/-! ### One context changed twice -/

theorem insertAt_insertAt {α : Type} (t : List (Nat × α)) (n : Nat) (a b : α) :
    insertAt (insertAt t n a) n b = insertAt t n b := by
  induction t with
  | nil => simp [insertAt]
  | cons e t ih =>
    obtain ⟨k, c⟩ := e
    by_cases hlt : n < k
    · simp [insertAt, hlt]
    · by_cases hk : n = k
      · simp [insertAt, hk]
      · simp [insertAt, hlt, hk, ih]

theorem modifyCarrier_modifyCarrier (s : State) (slot : Nat) (f g : Carrier → Carrier) :
    (s.modifyCarrier slot f).modifyCarrier slot g = s.modifyCarrier slot (fun c => g (f c)) := by
  unfold State.modifyCarrier
  cases h : lookup s.carriers slot with
  | none => simp only [h]
  | some c => simp only [lookup_insertAt_same, insertAt_insertAt]

/-! ### The intake of a new request -/

/-- A context past the intake of a request that is no bad report (R64, R66, R26). -/
def notedContext (r : MoveReq) (c : Carrier) : Carrier :=
  { c with
    silence := 0
    probeSent := false
    badRun := 0
    requestedSpeed := min r.speed.toNat 4095
    lastSequence := some r.sequence }

theorem recordSequence_noteGoodReport (slot : Nat) (r : MoveReq) (u : State) :
    recordSequence slot r.sequence (noteGoodReport slot r (refresh slot u)) = u.modifyCarrier slot (notedContext r) := by
  rw [recordSequence, noteGoodReport, refresh, modifyCarrier_modifyCarrier, modifyCarrier_modifyCarrier]
  rfl

theorem sequenceVerdict_fresh {c : Carrier} {q : Byte} (h : NewSequence c q) :
    sequenceVerdict c.lastSequence q = .fresh := by
  cases hl : c.lastSequence with
  | none => rfl
  | some l =>
    obtain ⟨hlo, hhi⟩ := h l hl
    rw [sequenceVerdict, if_neg (by omega), if_pos hhi]

section

variable {r : MoveReq} {slot : Nat} {s : State} (ready : Ready .c (moveReqFrame r s.partStation) s)
  (source : FromCarrier r.source slot s) (fresh : NewSequence (s.carrier slot) r.sequence)

include ready source fresh

/-- A new request from a carrier the part believes goes to step 3 with its silence counter restarted (R64, R149). -/
theorem exec_moveReq : exec (.moveReq r) s = .next (newRequest slot r (refresh slot (dropFront .c s))) := by
  obtain ⟨at_slot, believed⟩ := source
  refine (congrArg _ (takeFrame_ready s ready _)).trans (congrArg _ ?_)
  have found : (dropFront .c s).slotOf r.source = some slot := by
    rw [State.slotOf, dropFront_carriers]
    exact at_slot
  have carrier : (dropFront .c s).carrier slot = s.carrier slot := carrier_eq_of_carriers (dropFront_carriers s .c) slot
  simp only [handleMoveReq, forCarrier, found, takeMoveReq, carrier, believed, if_true, sequenceVerdict_fresh fresh]

end

section

variable {r : MoveReq} {slot : Nat} {s : State}

theorem admitted_of_source {source : Station} (h : FromCarrier source slot s) : (dropFront .c s).admitted slot = true :=
  (admitted_eq_of_carriers (dropFront_carriers s .c) slot).trans (admitted_of_believed h.2)

theorem carrier_dropFront : (dropFront .c s).carrier slot = s.carrier slot :=
  carrier_eq_of_carriers (dropFront_carriers s .c) slot

theorem carrier_refresh (ha : s.admitted slot = true) :
    (refresh slot s).carrier slot = { s.carrier slot with silence := 0, probeSent := false } :=
  carrier_modifyCarrier_same ha _

theorem fitsRoute_of_lt {c : Carrier} {head : Nat} (h0 : c.routeNumber ≠ 0) (h : head < c.route.length) :
    c.fitsRoute head = true := (if_neg h0).trans (decide_eq_true h)

theorem carrier_intake {source : Station} (h : FromCarrier source slot s) :
    (refresh slot (dropFront .c s)).carrier slot = { s.carrier slot with silence := 0, probeSent := false } := by
  rw [carrier_refresh (admitted_of_source h), carrier_dropFront]

end

section

variable {r : MoveReq} {slot : Nat} {s : State} (ready : Ready .c (moveReqFrame r s.partStation) s)
  (source : FromCarrier r.source slot s) (fresh : NewSequence (s.carrier slot) r.sequence)

include ready source fresh

/-- A report under another route number (R67). -/
theorem exec_otherRoute (h : r.routeNumber ≠ (s.carrier slot).routeNumber) :
    exec (.moveReq r) s =
      .next (answerRouteChange slot r ((dropFront .c s).modifyCarrier slot (notedContext r))) := by
  rw [exec_moveReq ready source fresh, newRequest, carrier_intake source, recordSequence_noteGoodReport]
  exact congrArg _ (if_pos h)

variable (route : r.routeNumber = (s.carrier slot).routeNumber)

include route

/-- A bad report (R66). -/
theorem exec_badReport (h : (s.carrier slot).fitsRoute r.headIndex.toNat = false) :
    exec (.moveReq r) s = .next (badReport slot (refresh slot (dropFront .c s))) := by
  rw [exec_moveReq ready source fresh, newRequest, carrier_intake source]
  exact congrArg _ ((if_neg (not_not.mpr route)).trans (if_pos (congrArg (!·) h)))

/-- A standing report (R68). -/
theorem exec_standing (h0 : (s.carrier slot).routeNumber = 0) (hh : r.headIndex = 0) :
    exec (.moveReq r) s = .next (standingReport slot r ((dropFront .c s).modifyCarrier slot (notedContext r))) := by
  have fits : (s.carrier slot).fitsRoute r.headIndex.toNat = true := by simp [Carrier.fitsRoute, h0, hh]
  rw [exec_moveReq ready source fresh, newRequest, carrier_intake source, recordSequence_noteGoodReport]
  exact congrArg _ ((if_neg (not_not.mpr route)).trans ((if_neg (Bool.eq_false_iff.mp (congrArg (!·) fits))).trans
    (if_pos h0)))

variable (stored : r.routeNumber ≠ 0) (onRoute : r.headIndex.toNat < (s.carrier slot).route.length)

include stored onRoute

/-- An overrun (R69): the sequence is not recorded. -/
theorem exec_overrun (h : (s.carrier slot).limit < r.headIndex.toNat) :
    exec (.moveReq r) s =
      .next (overrun slot r.headIndex.toNat (noteGoodReport slot r (refresh slot (dropFront .c s)))) := by
  have h0 : (s.carrier slot).routeNumber ≠ 0 := route ▸ stored
  have fits : (s.carrier slot).fitsRoute r.headIndex.toNat = true := fitsRoute_of_lt h0 onRoute
  rw [exec_moveReq ready source fresh, newRequest, carrier_intake source]
  exact congrArg _ ((if_neg (not_not.mpr route)).trans ((if_neg (Bool.eq_false_iff.mp (congrArg (!·) fits))).trans
    ((if_neg h0).trans (if_pos h))))

end

/-- A good report goes to step 6, and with that to step 7 (R70 to R73). -/
theorem exec_goodReport {r : MoveReq} {slot : Nat} {s : State} (good : GoodReport r slot s) :
    exec (.moveReq r) s =
      .next (cutbackStep slot (updatePosition slot r ((dropFront .c s).modifyCarrier slot (notedContext r)))) := by
  obtain ⟨ready, source, fresh, ⟨route, stored⟩, onRoute, granted⟩ := good
  have h0 : (s.carrier slot).routeNumber ≠ 0 := route ▸ stored
  have fits : (s.carrier slot).fitsRoute r.headIndex.toNat = true := fitsRoute_of_lt h0 onRoute
  rw [exec_moveReq ready source fresh, newRequest, carrier_intake source, recordSequence_noteGoodReport]
  exact congrArg _ ((if_neg (not_not.mpr route)).trans ((if_neg (Bool.eq_false_iff.mp (congrArg (!·) fits))).trans
    ((if_neg h0).trans (if_neg (Nat.not_lt.mpr granted)))))

/-! ### Leaving service (R34, R35) -/

/-- A context past the entry to LOST or QUARANTINED (R34). -/
def leftContext (st : CarrierState) (cause : LostCause) (cond : Condition) (c : Carrier) : Carrier :=
  { c with
    cutback := none
    silence := 0
    probeSent := false
    holdIdle := 0
    badRun := 0
    releases := 0
    passedOver := 0
    effectivePriority := c.params.priority
    lostCause := cause
    condition := cond
    state := st }

section

variable {slot : Nat} {st : CarrierState} {cause : LostCause} {cond : Condition} {code : Byte} {s : State}

@[simp] theorem freezeHolds_carriers (slot : Nat) (s : State) : (freezeHolds slot s).carriers = s.carriers := rfl
@[simp] theorem freezeHolds_occupancy (slot : Nat) (s : State) : (freezeHolds slot s).occupancy = s.occupancy := rfl
@[simp] theorem freezeHolds_waits (slot : Nat) (s : State) : (freezeHolds slot s).waits = s.waits := rfl
@[simp] theorem freezeHolds_portC (slot : Nat) (s : State) : (freezeHolds slot s).portC = s.portC := rfl
@[simp] theorem freezeHolds_portD (slot : Nat) (s : State) : (freezeHolds slot s).portD = s.portD := rfl

theorem leaveService_eq (slot : Nat) (st : CarrierState) (cause : LostCause) (cond : Condition) (code : Byte) (s : State) :
    leaveService slot st cause cond code s =
      let x := (freezeHolds slot (endWait slot s)).modifyCarrier slot (leftContext st cause cond)
      notice code ([byte slot] ++ halfBytes (x.carrier slot).station ++ [cause.code]) x := rfl

theorem leaveService_leftService (ha : s.admitted slot = true) :
    LeftService slot st cause cond code s (leaveService slot st cause cond code s) := by
  obtain ⟨holds, occupancy, portC⟩ := endWait_frame slot s
  have traffic := leaveService_trafficOnly s slot st cause cond code
  have before : TrafficOnly s (freezeHolds slot (endWait slot s)) :=
    TrafficOnly.trans (endWait_trafficOnly s slot) (freezeHolds_trafficOnly _ slot)
  have context : (freezeHolds slot (endWait slot s)).carrier slot = (endWait slot s).carrier slot :=
    carrier_eq_of_carriers (freezeHolds_carriers slot _) slot
  have adm : (freezeHolds slot (endWait slot s)).admitted slot = true :=
    (admitted_eq_of_carriers (freezeHolds_carriers slot _) slot).trans ((admitted_endWait _ _ _).trans ha)
  rw [leaveService_eq]
  constructor
  · rw [carrier_eq_of_carriers (notice_carriers _ _ _), carrier_modifyCarrier_same adm, context, carrier_endWait ha]
    rfl
  · intro sec
    rw [hold_of_holds (notice_holds _ _ _), hold_modifyCarrier, freezeHolds_hold, hold_of_holds holds,
      holders_of_holds holds]
  · rw [notice_occupancy, modifyCarrier_occupancy, freezeHolds_occupancy, occupancy]
  · rw [notice_waits, modifyCarrier_waits, freezeHolds_waits, waits_endWait]
  · intro n hn
    rw [carrier_eq_of_carriers (notice_carriers _ _ _), carrier_modifyCarrier, if_neg fun h => hn h.1,
      carrier_eq_of_carriers (freezeHolds_carriers slot _), carrier_endWait_other _ hn]
  · have station :
        (((freezeHolds slot (endWait slot s)).modifyCarrier slot (leftContext st cause cond)).carrier slot).station =
          (s.carrier slot).station := by
      rw [carrier_modifyCarrier_same adm, context, carrier_endWait ha]
      rfl
    have left : TrafficOnly s ((freezeHolds slot (endWait slot s)).modifyCarrier slot (leftContext st cause cond)) :=
      TrafficOnly.trans before (modifyCarrier_trafficOnly _ slot _)
    refine (portD_notice left ?_ code _).trans ?_
    · rw [modifyCarrier_portD, freezeHolds_portD, endWait_portD]
    · rw [station]
      rfl
  · rw [notice_portC, modifyCarrier_portC, freezeHolds_portC, portC]
  · exact traffic

end

/-- Leaving service forgets what it resets: fields that differ only there may differ before. -/
theorem LeftService.of_context {slot : Nat} {st : CarrierState} {cause : LostCause} {cond : Condition} {code : Byte}
    {u v : State} {f g : Carrier → Carrier} (h : LeftService slot st cause cond code (u.modifyCarrier slot f) v)
    (hfg : ∀ c, leftContext st cause cond (f c) = leftContext st cause cond (g c)) :
    LeftService slot st cause cond code (u.modifyCarrier slot g) v := by
  have same : leftContext st cause cond ((u.modifyCarrier slot f).carrier slot) =
      leftContext st cause cond ((u.modifyCarrier slot g).carrier slot) := by
    rw [carrier_modifyCarrier, carrier_modifyCarrier]
    split
    · exact hfg _
    · rfl
  have traffic : TrafficOnly (u.modifyCarrier slot g) (u.modifyCarrier slot f) := by
    constructor <;> constructor <;> simp
  have station : ((u.modifyCarrier slot f).carrier slot).station = ((u.modifyCarrier slot g).carrier slot).station :=
    (congrArg Carrier.station same :)
  have holds : (u.modifyCarrier slot f).holds = (u.modifyCarrier slot g).holds := by
    rw [modifyCarrier_holds, modifyCarrier_holds]
  constructor
  · exact h.context.trans same
  · intro sec
    rw [h.holds, hold_of_holds holds, holders_of_holds holds]
  · rw [h.occupancy, modifyCarrier_occupancy, modifyCarrier_occupancy]
  · rw [h.waits, modifyCarrier_waits, modifyCarrier_waits]
  · intro n hn
    rw [h.others n hn, carrier_modifyCarrier, carrier_modifyCarrier, if_neg fun x => hn x.1, if_neg fun x => hn x.1]
  · rw [h.portD, station, noticeOf_congr traffic]
    exact offerOwn_portD_congr (by rw [modifyCarrier_portD, modifyCarrier_portD]) _
  · rw [h.portC, modifyCarrier_portC, modifyCarrier_portC]
  · exact TrafficOnly.trans traffic h.rest

/-! ### Bad reports and overruns -/

/-- Settles O36: the count of bad reports decides in `badReport`, and leaving service is `leaveService_leftService`. -/
theorem badReportsQuarantineAtThree : Obligations.BadReportsQuarantineAtThree := by
  intro r slot s ready source fresh c route bad w
  have ha : (dropFront .c s).admitted slot = true := admitted_of_source source
  have unfit : c.fitsRoute r.headIndex.toNat = false := by
    rcases bad with ⟨h0, hh⟩ | ⟨h0, hh⟩
    · exact (if_pos (route ▸ h0)).trans (decide_eq_false fun h => hh (BitVec.eq_of_toNat_eq h))
    · exact (if_neg (route ▸ h0)).trans (decide_eq_false (Nat.not_lt.mpr hh))
  have counted : (w.carrier slot).badRun = c.badRun + 1 := by
    rw [carrier_modifyCarrier_same ha, carrier_dropFront]
  have next : exec (.moveReq r) s = .next (if 3 ≤ (w.carrier slot).badRun then quarantineBadReports slot w else w) := by
    have once : (refresh slot (dropFront .c s)).modifyCarrier slot
        (fun c => { c with condition := .badReport, badRun := c.badRun + 1 }) = w :=
      modifyCarrier_modifyCarrier _ _ _ _
    rw [exec_badReport ready source fresh route unfit, badReport, once]
  refine ⟨fun h => ?_, fun h => ⟨quarantineBadReports slot w, ?_, ?_⟩⟩
  · rw [next, if_neg (by omega)]
  · rw [next, if_pos (by omega)]
  · exact leaveService_leftService ((admitted_modifyCarrier _ _ _ _).trans ha)

theorem overrunConflict_iff {s : State} {slot sec : Nat} :
    overrunConflict s slot sec = true ↔ spaceOfAnother s slot sec := by
  have held : (s.holders sec).any (fun h => h.slot ≠ slot) = true ↔ ∃ h ∈ s.holders sec, h.slot ≠ slot := by
    simp
  have conflict : (conflictBlocker s slot (s.wide slot) sec).isSome = true ↔
      ∃ k ∈ s.chainOf sec, ∃ h ∈ s.holders k.other, Meets s slot k h := by
    rw [conflictBlocker, List.isSome_findSome?, List.any_eq_true]
    refine exists_congr fun k => and_congr Iff.rfl ?_
    simp [conflictHolder, Meets]
  rw [overrunConflict, Bool.or_eq_true, held, conflict]
  rfl

/-- Whose space it is does not turn on a change of context that leaves the wide flag (R69). -/
theorem spaceOfAnother_modifyCarrier {s : State} {slot : Nat} {f : Carrier → Carrier}
    (hf : ∀ c, (f c).params = c.params) (sec : Nat) :
    spaceOfAnother ((dropFront .c s).modifyCarrier slot f) slot sec ↔ spaceOfAnother s slot sec := by
  have holders (k : Nat) : ((dropFront .c s).modifyCarrier slot f).holders k = s.holders k :=
    holders_of_holds (by rw [modifyCarrier_holds, dropFront_holds]) k
  have chain : ((dropFront .c s).modifyCarrier slot f).chainOf sec = s.chainOf sec := by
    simp only [State.chainOf, modifyCarrier_sections, dropFront_sections]
  have wide (n : Nat) : ((dropFront .c s).modifyCarrier slot f).wide n = s.wide n := by
    rw [State.wide, State.wide, carrier_modifyCarrier, carrier_dropFront]
    split
    · rename_i h
      rw [hf, h.1]
    · rfl
  simp only [spaceOfAnother, holders, chain, wide]

theorem haltPart_eq {s v : State} (hp : v.params = s.params) (hs : v.stationStrap = s.stationStrap) (hc : v.cycle = s.cycle)
    (cause : HaltCause) (slot : Nat) (station : Station) (sec : Nat) :
    haltPart cause slot station sec v =
      offerOwn .d (noticeOf s ([0x0B, cause.code] ++ bytes2 s.cycle.toNat ++ [byte slot] ++ halfBytes station ++ bytes2 sec))
        { v with partState := .halted, haltCause := cause } := by
  simp only [haltPart, noticeHalted, notice, noticeOf, kindNotice, State.partStation, hp, hs, hc]
  rfl

/-- A context past an overrun's step 4: the report counts as heard, its sequence is not recorded (R64, R66). -/
def heardContext (r : MoveReq) (c : Carrier) : Carrier :=
  { c with silence := 0, probeSent := false, badRun := 0, requestedSpeed := min r.speed.toNat 4095 }

/-- Settles O38: the overrun is `leaveService_leftService` and, where the head lies in another's space
(`overrunConflict_iff`), the halt `haltPart_eq`. -/
theorem overrunQuarantinesAndMayHalt : Obligations.OverrunQuarantinesAndMayHalt := by
  intro r slot s e ready source fresh c route stored he beyond w
  have ha : (dropFront .c s).admitted slot = true := admitted_of_source source
  have onRoute : r.headIndex.toNat < c.route.length := (List.getElem?_eq_some_iff.mp he).1
  let x : State := (dropFront .c s).modifyCarrier slot (heardContext r)
  have noted : noteGoodReport slot r (refresh slot (dropFront .c s)) = x := modifyCarrier_modifyCarrier _ _ _ _
  have context : x.carrier slot = heardContext r c := by rw [carrier_modifyCarrier_same ha, carrier_dropFront]
  have left : LeftService slot .quarantined .overrun .overrun 0x04 x (quarantineOverrun slot x) :=
    leaveService_leftService ((admitted_modifyCarrier _ _ _ _).trans ha)
  have space : overrunConflict x slot e.sec = true ↔ spaceOfAnother s slot e.sec :=
    overrunConflict_iff.trans (spaceOfAnother_modifyCarrier (f := heardContext r) (fun _ => rfl) e.sec)
  have next : exec (.moveReq r) s = .next (if overrunConflict x slot e.sec then
      haltPart .overrunConflict slot c.station e.sec (quarantineOverrun slot x) else quarantineOverrun slot x) := by
    rw [exec_overrun ready source fresh route stored onRoute beyond, noted, overrun, context]
    simp only [heardContext, he, Option.map_some, Option.getD_some]
  have before : TrafficOnly s x :=
    TrafficOnly.trans (PortsOnly.trafficOnly (dropFront_portsOnly s .c)) (modifyCarrier_trafficOnly _ slot _)
  have traffic : TrafficOnly s (quarantineOverrun slot x) := TrafficOnly.trans before left.rest
  refine ⟨quarantineOverrun slot x, ?_, fun h => ?_, fun h => ?_⟩
  · exact LeftService.of_context left fun _ => rfl
  · rw [next, if_neg fun h' => h (space.mp h')]
  · rw [next, if_pos (space.mpr h), haltPart_eq traffic.control.params traffic.board.stationStrap traffic.control.cycle]
    rfl

end Sys2Proof.Proofs
end

section
/-! Step 6 of a request (R70 to R72) and the answers of speed 0 that follow it (R67, R68, R74, R75). -/

namespace Sys2Proof.Proofs

open Sys2Proof Sys2Proof.Machine Sys2Proof.Laws

/-! ### A trail given back, and what comes after -/

section

variable {slot head headSection : Nat} {gone : List RouteEntry} {s u v : State}

/-- What keeps the carrier's holds and its count, and offers no NOTICE PROGRESS, may follow. -/
theorem GaveBack.leave (h : GaveBack slot gone head headSection s u)
    (states : ∀ k, v.holdStateOf slot k = u.holdStateOf slot k)
    (releases : (v.carrier slot).releases = (u.carrier slot).releases) (quiet : NoProgress u v) :
    GaveBack slot gone head headSection s v where
  states k := (states k).trans (h.states k)
  uncounted hp := releases.trans (h.uncounted hp)
  counted hlt := releases.trans (h.counted hlt)
  notices hlt := (h.notices hlt).trans (told_of_noProgress rfl quiet)

end

/-! ### The report followed: noted, trimmed, with its position -/

/-- A report has been followed (R70 to R72): the carrier's context is `c` with its trail cut down to the reported count
and the releases counted, the trimmed sections are given back, and carriers that wait for nothing are not touched. -/
structure Followed (slot : Nat) (c : Carrier) (count : Nat) (s y : State) : Prop where
  context : y.carrier slot = { c with trail := trailCut c.trail count, releases := (y.carrier slot).releases }
  admitted : y.admitted slot = true
  wait : y.waitOf slot = s.waitOf slot
  back : GaveBack slot (trailTrimmed c.trail count) c.head c.headSection s y
  bystanders : ∀ n, n ≠ slot → s.waitOf n = none → Untouched n s y
  rest : TrafficOnly s y

theorem bystandersKept_of_untouched {slot : Nat} {s v : State}
    (h : ∀ n, n ≠ slot → s.waitOf n = none → Untouched n s v) : BystandersKept slot s v :=
  fun n hn hw => ⟨(h n hn hw).carrier, (h n hn hw).holds⟩

section

variable {slot count : Nat} {c : Carrier} {s y : State}

/-- Two contexts between which neither the count of releases nor what its notice reads differs (R71). -/
structure TallyKept (c d : Carrier) : Prop where
  params : d.params = c.params
  releases : d.releases = c.releases
  station : d.station = c.station
  routeNumber : d.routeNumber = c.routeNumber

/-- What a report notes in the context is followed by the trimming of the trail (R71). -/
theorem trimTrail_followed {source : Station} (hs : FromCarrier source slot s) (f : Carrier → Carrier)
    (kept : ∀ c, TallyKept c (f c)) (count : Nat) :
    Followed slot (f (s.carrier slot)) count s (trimTrail slot count ((dropFront .c s).modifyCarrier slot f)) := by
  have ha : ((dropFront .c s).modifyCarrier slot f).admitted slot = true :=
    (admitted_modifyCarrier _ _ _ _).trans (admitted_of_source hs)
  have trimmed := trimTrail_trimmed ha count
  have context : ((dropFront .c s).modifyCarrier slot f).carrier slot = f (s.carrier slot) := by
    rw [carrier_modifyCarrier_same (admitted_of_source hs), carrier_dropFront]
  have holds : ((dropFront .c s).modifyCarrier slot f).holds = s.holds := by
    rw [modifyCarrier_holds, dropFront_holds]
  have waits : ((dropFront .c s).modifyCarrier slot f).waits = s.waits := by
    rw [modifyCarrier_waits, dropFront_waits]
  have portD : ((dropFront .c s).modifyCarrier slot f).portD = s.portD := modifyCarrier_portD _ _ _
  have before : TrafficOnly s ((dropFront .c s).modifyCarrier slot f) :=
    TrafficOnly.trans (PortsOnly.trafficOnly (dropFront_portsOnly s .c)) (modifyCarrier_trafficOnly _ slot _)
  have untouched (n : Nat) (hn : n ≠ slot) : Untouched n s ((dropFront .c s).modifyCarrier slot f) :=
    (isFrame_untouched n).trans ((isFrame_untouched n).ports (dropFront_portsOnly s .c)) (modifyCarrier_untouched f hn)
  have notice (head sec : Nat) : progressNotice ((dropFront .c s).modifyCarrier slot f) slot head sec =
      progressNotice s slot head sec :=
    progressNotice_congr before (by rw [context, (kept _).station]) (by rw [context, (kept _).routeNumber]) _ _
  have told := trimmed.notices
  have counted := trimmed.counted
  have uncounted := trimmed.uncounted
  have gone := trimmed.states
  simp only [context, notice, (kept _).params, (kept _).releases] at told counted uncounted gone
  constructor
  · have after := trimmed.context
    rwa [drop_trailTrimmed, context] at after
  · exact trimmed.admitted.trans ha
  · rw [trimmed.wait]
    simp only [State.waitOf, waits]
  · refine ⟨fun k => (gone k).trans ?_, uncounted, counted, fun hlt => ?_⟩
    · rw [holdStateOf_of_holds holds]
    · have both := (told_of_portD (f := progressNotice s slot (f (s.carrier slot)).head (f (s.carrier slot)).headSection)
        portD rfl).trans (told hlt)
      rwa [Nat.zero_add] at both
  · intro n hn hw
    exact (isFrame_untouched n).trans (untouched n hn)
      (trimmed.bystanders n hn ((untouched n hn).wait.trans hw))
  · exact TrafficOnly.trans before trimmed.traffic

/-- The reported remaining distance is written, clamped to the head section's length (R72). -/
theorem Followed.applyRemaining (h : Followed slot c count s y) (remaining : Nat) :
    Followed slot { c with remaining := min remaining (s.lengthOf c.headSection) } count s
      (applyRemaining slot remaining y) := by
  have context : (Machine.applyRemaining slot remaining y).carrier slot =
      { y.carrier slot with remaining := min remaining (y.lengthOf (y.carrier slot).headSection) } :=
    carrier_modifyCarrier_same h.admitted _
  have headSection : (y.carrier slot).headSection = c.headSection := by rw [h.context]
  have length (k : Nat) : y.lengthOf k = s.lengthOf k := by simp only [State.lengthOf, h.rest.map.sections]
  constructor
  · rw [context, headSection, length, h.context]
  · exact (admitted_modifyCarrier _ _ _ _).trans h.admitted
  · rw [← h.wait]
    simp only [State.waitOf, Machine.applyRemaining, modifyCarrier_waits]
  · refine h.back.leave (fun k => holdStateOf_of_holds (modifyCarrier_holds _ _ _) slot k) ?_
      (noProgress_of_eq (modifyCarrier_portD _ _ _))
    rw [context]
  · intro n hn hw
    exact (isFrame_untouched n).trans (h.bystanders n hn hw) (modifyCarrier_untouched _ hn)
  · exact TrafficOnly.trans h.rest (modifyCarrier_trafficOnly _ _ _)

end

/-! ### A GRANT sent -/

section

variable {slot : Nat} {s y : State}

theorem number_eq (g : Grant) (c : Carrier) :
    g.number c = if c.keptGrant = some (g.limit, g.speed) then c.grantNumber else c.grantNumber + 1 := by
  by_cases h : c.keptGrant = some (g.limit, g.speed) <;> simp [Grant.number, Grant.differs, h]

theorem sendGrant_offered (slot : Nat) (g : Grant) (s : State) :
    ∃ w, sendGrant slot g s = offerOwn .c (grantFrame s (s.carrier slot) g) w := ⟨_, rfl⟩

/-- A GRANT is laid out as R79 gives it, numbered after the last one before (R80, R82). -/
theorem sendGrant_grantSent (ha : y.admitted slot = true) (g : Grant)
    (kept : (y.carrier slot).keptGrant = (s.carrier slot).keptGrant)
    (number : (y.carrier slot).grantNumber = (s.carrier slot).grantNumber) :
    GrantSent slot g.route g.limit g.distance g.speed g.reason.code s (sendGrant slot g y) := by
  have context := carrier_sendGrant_same ha g
  have traffic := sendGrant_trafficOnly y slot g
  have frame : grantFrame y (y.carrier slot) g =
      grantOf (sendGrant slot g y) slot g.route g.limit g.distance g.speed g.reason.code := by
    rw [grantOf, context]
    simp only [grantFrame, kindGrant, Carrier.answerSequence, State.partStation, traffic.board.stationStrap, expiry,
      traffic.control.cycle]
  refine ⟨?_, by rw [context], ?_, ?_⟩
  · rw [← frame, context]
  · rw [context, ← kept, ← number]
    exact number_eq g _
  · rw [← frame]
    exact sendGrant_offered slot g y

/-- The GRANT that follows a report leaves what the report gave back. -/
theorem GaveBack.sendGrant {gone : List RouteEntry} {head headSection : Nat}
    (h : GaveBack slot gone head headSection s y) (ha : y.admitted slot = true) (g : Grant) :
    GaveBack slot gone head headSection s (sendGrant slot g y) := by
  refine h.leave (fun k => holdStateOf_of_holds (sendGrant_frame slot g y).1 slot k) ?_ (sendGrant_actsFor slot g y).notices
  rw [carrier_sendGrant_same ha]

theorem sendGrant_bystanders {slot : Nat} {u v : State} (h : ∀ n, n ≠ slot → u.waitOf n = none → Untouched n u v)
    (g : Grant) : BystandersKept slot u (sendGrant slot g v) :=
  bystandersKept_of_untouched fun n hn hw =>
    (isFrame_untouched n).trans (h n hn hw) ((sendGrant_actsFor slot g v).others n hn)

end

/-- A report has been followed and answered by a GRANT (R70 to R72, R79). -/
structure Answered (slot : Nat) (c : Carrier) (count : Nat) (g : Grant) (s v : State) : Prop where
  context : v.carrier slot =
    { c with
      trail := trailCut c.trail count
      releases := (v.carrier slot).releases
      grantNumber := (v.carrier slot).grantNumber
      keptGrant := (v.carrier slot).keptGrant
      lastAnswer := (v.carrier slot).lastAnswer
      condition := g.reason.condition c.condition }
  sent : GrantSent slot g.route g.limit g.distance g.speed g.reason.code (dropFront .c s) v
  back : TrailGivenBack slot c.trail c.head c.headSection count s v
  bystanders : BystandersKept slot s v
  rest : TrafficOnly s v

theorem Followed.answered {slot count : Nat} {c : Carrier} {s y : State} (h : Followed slot c count s y) (g : Grant)
    (kept : c.keptGrant = (s.carrier slot).keptGrant) (number : c.grantNumber = (s.carrier slot).grantNumber) :
    Answered slot c count g s (sendGrant slot g y) where
  context := by
    rw [carrier_sendGrant_same h.admitted, h.context]
  sent := sendGrant_grantSent h.admitted g (by rw [h.context, carrier_dropFront, kept])
    (by rw [h.context, carrier_dropFront, number])
  back := (h.back.sendGrant h.admitted g).trailGivenBack
  bystanders := sendGrant_bystanders h.bystanders g
  rest := TrafficOnly.trans h.rest (sendGrant_trafficOnly y slot g)

/-! ### Standing reports and reports under another route number (R67, R68) -/

/-- The reason of the GRANT that answers a standing report (R68, R75). -/
def standingReason (s : State) : GrantReason := if s.partState = .halted then .halted else .routeEnd

/-- A standing report is answered by route 0, limit 0 and speed 0 (R68, R75). -/
theorem standingReport_eq {slot : Nat} {s y : State} {r : MoveReq}
    (hy : applyRemaining slot r.remaining.toNat (trimTrail slot r.trailCount.toNat s) = y)
    (h : (y.carrier slot).routeNumber = 0) (hl : (y.carrier slot).limit = 0) :
    standingReport slot r s = sendGrant slot ⟨0, 0, (y.carrier slot).remaining, 0, standingReason y⟩ y := by
  unfold standingReport standingReason
  rw [hy]
  dsimp only
  split
  · simp only [answerHalted, h, hl, if_true]
  · rfl

theorem standingReason_condition (s : State) (c : Condition) : (standingReason s).condition c = c := by
  unfold standingReason
  split <;> rfl

theorem standingReason_code (s : State) : (standingReason s).code = if s.partState = .halted then 0x06 else 0x05 := by
  unfold standingReason
  split <;> rfl

/-- Settles O37: the trail count is followed (`trimTrail_followed`), and the GRANT of speed 0 answers it. -/
theorem standingReportsGetSpeedZero : Obligations.StandingReportsGetSpeedZero := by
  intro r slot s ready source fresh c u applied rem
  have trimmed := trimTrail_followed source (notedContext r) (fun _ => ⟨rfl, rfl, rfl, rfl⟩) r.trailCount.toNat
  have noted (d : Carrier) (h : d = { notedContext r c with
      trail := trailCut c.trail r.trailCount.toNat, remaining := d.remaining, releases := d.releases
      grantNumber := d.grantNumber, keptGrant := d.keptGrant, lastAnswer := d.lastAnswer }) : applied d := by
    refine ⟨?_, ?_⟩ <;> rw [h]
    · exact ⟨rfl, rfl, rfl, rfl, rfl⟩
    · exact ⟨rfl, rfl, rfl, rfl, rfl, rfl, rfl, rfl⟩
  refine ⟨fun h => ?_, fun hr h0 hh hl => ?_⟩
  · obtain ⟨v, next, answered⟩ : ∃ v, exec (.moveReq r) s = .next v ∧ Answered slot (notedContext r c)
        r.trailCount.toNat ⟨c.routeNumber, c.head, c.remaining, 0, .routeChange⟩ s v := by
      refine ⟨_, (exec_otherRoute ready source fresh h).trans ?_, trimmed.answered _ rfl rfl⟩
      rw [answerRouteChange, trimmed.context]
      rfl
    have context := answered.context
    refine ⟨v, next, noted _ ?_, ?_, answered.sent, answered.back, answered.bystanders, answered.rest⟩
    · rw [context]
      rfl
    · rw [context]
      rfl
  · obtain ⟨v, next, answered⟩ : ∃ v, exec (.moveReq r) s = .next v ∧ Answered slot
        { notedContext r c with remaining := rem } r.trailCount.toNat ⟨0, 0, rem, 0, standingReason s⟩ s v := by
      have followed : Followed slot { notedContext r c with remaining := rem } r.trailCount.toNat s _ :=
        trimmed.applyRemaining r.remaining.toNat
      have part : standingReason _ = standingReason s :=
        congrArg (fun p => if p = PartState.halted then GrantReason.halted else .routeEnd) followed.rest.control.partState
      refine ⟨_, (exec_standing ready source fresh (hr.trans h0.symm) h0 hh).trans ?_, followed.answered _ rfl rfl⟩
      rw [standingReport_eq rfl (by rw [followed.context]; exact h0) (by rw [followed.context]; exact hl), part,
        followed.context]
    have context := answered.context
    rw [standingReason_condition] at context
    refine ⟨v, next, noted _ ?_, ?_, ?_, answered.back, answered.bystanders, answered.rest⟩
    · rw [context]
      rfl
    · rw [context]
    · have sent := answered.sent
      rwa [standingReason_code] at sent

end Sys2Proof.Proofs
end

section
/-! Good reports (R70 to R76): the position after step 6, and the answers of steps 8 to 10 without a cutback. -/

namespace Sys2Proof.Proofs

open Sys2Proof Sys2Proof.Machine Sys2Proof.Laws

/-! ### Step 6 (R70 to R72) -/

/-- A context whose head has advanced to a reported index (R70). -/
def advancedContext (head : Nat) (c : Carrier) : Carrier :=
  if c.head < head then
    { c with
      trail := c.trail ++ (c.route.drop c.head).take (head - c.head)
      head := head
      headSection := ((c.route[head]?).map (fun e => e.sec)).getD c.headSection
      holdIdle := 0 }
  else c

/-- The context that a good report brings, its trail not trimmed yet (R64, R66, R70, R72). -/
def reportedContext (r : MoveReq) (s : State) (c : Carrier) : Carrier :=
  { notedContext r c with
    trail := c.trail ++ (c.route.drop c.head).take (r.headIndex.toNat - c.head)
    head := headAfter c r
    headSection := headSectionAfter c r
    remaining := remainingAfter s c r
    holdIdle := if c.head < r.headIndex.toNat then 0 else c.holdIdle }

theorem advancedContext_notedContext {r : MoveReq} {s : State} {c : Carrier} (h : r.headIndex.toNat < c.route.length) :
    { advancedContext r.headIndex.toNat (notedContext r c) with
      remaining := min r.remaining.toNat (s.lengthOf (advancedContext r.headIndex.toNat (notedContext r c)).headSection) } =
      reportedContext r s c := by
  unfold advancedContext
  split
  · rename_i hlt
    have hlt' : c.head < r.headIndex.toNat := hlt
    simp only [reportedContext, remainingAfter, headSectionAfter, headAfter, if_pos hlt', Nat.max_eq_right hlt'.le,
      notedContext, List.getElem?_eq_getElem h, Option.map_some, Option.getD_some]
  · rename_i hlt
    have hle : r.headIndex.toNat ≤ c.head := Nat.not_lt.mp hlt
    have hlt' : ¬c.head < r.headIndex.toNat := hlt
    simp only [reportedContext, remainingAfter, headSectionAfter, headAfter, if_neg hlt', Nat.max_eq_left hle,
      Nat.sub_eq_zero_of_le hle, List.take_zero, List.append_nil, notedContext]

/-- The state that step 6 of a good report leaves. -/
def positioned (r : MoveReq) (slot : Nat) (s : State) : State :=
  updatePosition slot r ((dropFront .c s).modifyCarrier slot (notedContext r))

section

variable {r : MoveReq} {slot : Nat} {s : State} (good : GoodReport r slot s)

include good

theorem exec_good : exec (.moveReq r) s = .next (cutbackStep slot (positioned r slot s)) := exec_goodReport good

theorem positioned_followed :
    Followed slot (reportedContext r s (s.carrier slot)) r.trailCount.toNat s (positioned r slot s) := by
  have advance := modifyCarrier_modifyCarrier (dropFront .c s) slot (notedContext r) (advancedContext r.headIndex.toNat)
  have kept (c : Carrier) : TallyKept c (advancedContext r.headIndex.toNat (notedContext r c)) := by
    unfold advancedContext
    split <;> exact ⟨rfl, rfl, rfl, rfl⟩
  have followed := (trimTrail_followed good.source _ kept r.trailCount.toNat).applyRemaining r.remaining.toNat
  rw [advancedContext_notedContext good.onRoute, ← advance] at followed
  exact followed

end

/-! ### Steps 8 and 9 (R74, R75) -/

/-- An answer by a GRANT on the context `d` that touches nothing else of the traffic (R79, R80, R82). -/
structure AnsweredOn (slot : Nat) (d : Carrier) (g : Grant) (w v : State) : Prop where
  context : v.carrier slot =
    { d with
      grantNumber := (v.carrier slot).grantNumber
      keptGrant := (v.carrier slot).keptGrant
      lastAnswer := (v.carrier slot).lastAnswer
      condition := g.reason.condition d.condition }
  sent : GrantSent slot g.route g.limit g.distance g.speed g.reason.code w v
  only : OnlyContext slot w v
  quiet : NoProgress w v

section

variable {slot : Nat} {w : State}

theorem sendGrant_answeredOn (ha : w.admitted slot = true) (g : Grant) :
    AnsweredOn slot (w.carrier slot) g w (sendGrant slot g w) := by
  obtain ⟨holds, occupancy, waits, -⟩ := sendGrant_frame slot g w
  refine ⟨?_, sendGrant_grantSent ha g rfl rfl, ⟨holds, occupancy, waits, fun n hn => carrier_sendGrant_other w g hn,
    sendGrant_trafficOnly w slot g⟩, (sendGrant_actsFor slot g w).notices⟩
  rw [carrier_sendGrant_same ha]

theorem sendGrant_portD (slot : Nat) (g : Grant) (w : State) : (sendGrant slot g w).portD = w.portD := by
  simp only [sendGrant, sendAnswer_portD, modifyCarrier_portD]

/-- The GRANT of a HALTED part (R75). -/
def haltedGrant (w : State) (c : Carrier) : Grant := ⟨c.routeNumber, c.limit, available w c c.limit, 0, .halted⟩

theorem answerRequest_halted (hp : w.partState = .halted) (h : (w.carrier slot).routeNumber ≠ 0) :
    answerRequest slot w = sendGrant slot (haltedGrant w (w.carrier slot)) w := by
  rw [answerRequest, if_pos hp, answerHalted, haltedGrant]
  simp only [if_neg h]

/-- A context whose route is complete (R74). -/
def completedContext (c : Carrier) : Carrier :=
  { c with routeNumber := 0, route := [], head := 0, limit := 0, holdIdle := 0, state := .idle }

/-- The body of NOTICE ROUTE_DONE (R74, R159). -/
def routeDoneBody (slot : Nat) (c : Carrier) : List Byte :=
  [0x06, byte slot] ++ halfBytes c.station ++ [c.routeNumber] ++ bytes2 c.headSection

/-- The route done with, its notice offered and the GRANT not sent yet (R74). -/
def routeDone (slot : Nat) (w : State) : State :=
  (noticeRouteDone slot (w.carrier slot).routeNumber w).modifyCarrier slot completedContext

theorem carrier_routeDone (ha : w.admitted slot = true) :
    (routeDone slot w).carrier slot = completedContext (w.carrier slot) := by
  have carriers : (noticeRouteDone slot (w.carrier slot).routeNumber w).carriers = w.carriers := notice_carriers _ _ _
  rw [routeDone, carrier_modifyCarrier_same ((admitted_eq_of_carriers carriers slot).trans ha),
    carrier_eq_of_carriers carriers]

theorem admitted_routeDone (ha : w.admitted slot = true) : (routeDone slot w).admitted slot = true :=
  (admitted_modifyCarrier _ _ _ _).trans ((admitted_eq_of_carriers (notice_carriers _ _ _) slot).trans ha)

theorem completeRoute_eq (ha : w.admitted slot = true) :
    completeRoute slot w = sendGrant slot ⟨0, 0, (w.carrier slot).remaining, 0, .routeEnd⟩ (routeDone slot w) := by
  have remaining : ((routeDone slot w).carrier slot).remaining = (w.carrier slot).remaining := by
    rw [carrier_routeDone ha]
    rfl
  exact congrArg (fun n => sendGrant slot ⟨0, 0, n, 0, .routeEnd⟩ (routeDone slot w)) remaining

theorem completeRoute_portD (ha : w.admitted slot = true) :
    (completeRoute slot w).portD = (offerOwn .d (noticeOf w (routeDoneBody slot (w.carrier slot))) w).portD := by
  rw [completeRoute_eq ha, sendGrant_portD, routeDone, modifyCarrier_portD]
  exact portD_notice (TrafficOnly.refl w) rfl _ _

theorem completeRoute_answeredOn (ha : w.admitted slot = true) :
    AnsweredOn slot (completedContext (w.carrier slot)) ⟨0, 0, (w.carrier slot).remaining, 0, .routeEnd⟩ w
      (completeRoute slot w) := by
  have done := carrier_routeDone ha
  have answered := sendGrant_answeredOn (admitted_routeDone ha) ⟨0, 0, (w.carrier slot).remaining, 0, .routeEnd⟩
  have before : PortsOnly w (noticeRouteDone slot (w.carrier slot).routeNumber w) := notice_portsOnly _ _ _
  rw [← completeRoute_eq ha, done] at answered
  refine ⟨answered.context, ?_, ⟨?_, ?_, ?_, fun n hn => ?_, ?_⟩, ?_⟩
  · obtain ⟨answer, kept, number, offered⟩ := answered.sent
    rw [done] at number
    exact ⟨answer, kept, number, offered⟩
  · rw [answered.only.holds, routeDone, modifyCarrier_holds, before.traffic.holds]
  · rw [answered.only.occupancy, routeDone, modifyCarrier_occupancy, before.traffic.occupancy]
  · rw [answered.only.waits, routeDone, modifyCarrier_waits, before.traffic.waits]
  · rw [answered.only.others n hn, routeDone, carrier_modifyCarrier, if_neg fun h => hn h.1,
      carrier_eq_of_carriers before.traffic.carriers]
  · exact TrafficOnly.trans (PortsOnly.trafficOnly before)
      (TrafficOnly.trans (modifyCarrier_trafficOnly _ slot _) answered.only.rest)
  · have told : NoProgress w (noticeRouteDone slot (w.carrier slot).routeNumber w) := notice_noProgress (by decide) _ w
    exact composes_noProgress.trans told
      (composes_noProgress.trans (noProgress_of_eq (modifyCarrier_portD _ _ _)) answered.quiet)

end

/-! ### An answer after a report followed -/

section

variable {slot count : Nat} {c d : Carrier} {g : Grant} {s w v : State}

theorem AnsweredOn.followed (a : AnsweredOn slot d g w v) (h : Followed slot c count s w)
    (releases : d.releases = (w.carrier slot).releases) :
    TrailGivenBack slot c.trail c.head c.headSection count s v ∧ BystandersKept slot s v ∧ TrafficOnly s v := by
  refine ⟨(h.back.leave (fun k => holdStateOf_of_holds a.only.holds slot k) ?_ a.quiet).trailGivenBack,
    fun n hn hw => ⟨?_, fun sec => ?_⟩, TrafficOnly.trans h.rest a.only.rest⟩
  · rw [a.context, releases]
  · rw [a.only.others n hn, (h.bystanders n hn hw).carrier]
  · rw [holdStateOf_of_holds a.only.holds, (h.bystanders n hn hw).holds]

/-- Distances and speeds are the same before and after the GRANT (R84 to R90). -/
theorem AnsweredOn.span (a : AnsweredOn slot d g w v) : SameSpan w v d (v.carrier slot) where
  lengthOf := (sameSpan_of_trafficOnly a.only.rest d).lengthOf
  speedLimitOf := (sameSpan_of_trafficOnly a.only.rest d).speedLimitOf
  margin := (sameSpan_of_trafficOnly a.only.rest d).margin
  params := by rw [a.context]
  route := by rw [a.context]
  head := by rw [a.context]
  limit := by rw [a.context]
  headSection := by rw [a.context]
  remaining := by rw [a.context]
  requestedSpeed := by rw [a.context]

theorem GrantSent.since {route : Byte} {limit distance speed : Nat} {reason : Byte}
    (h : GrantSent slot route limit distance speed reason w v)
    (kept : (w.carrier slot).keptGrant = (s.carrier slot).keptGrant)
    (number : (w.carrier slot).grantNumber = (s.carrier slot).grantNumber) :
    GrantSent slot route limit distance speed reason s v :=
  ⟨h.answer, h.kept, by rw [← kept, ← number]; exact h.number, h.offered⟩

/-- The answer to a good report numbers its GRANT after the last one before the report (R80). -/
theorem AnsweredOn.sentSince {r : MoveReq} (a : AnsweredOn slot d g w v)
    (h : Followed slot (reportedContext r s (s.carrier slot)) count s w) :
    GrantSent slot g.route g.limit g.distance g.speed g.reason.code (dropFront .c s) v :=
  GrantSent.since a.sent (by rw [h.context, carrier_dropFront]; rfl) (by rw [h.context, carrier_dropFront]; rfl)

end

/-! ### Which of steps 8 to 10 answers -/

/-- A report completes the route (R74). -/
def Completes (r : MoveReq) (c : Carrier) : Prop :=
  c.state = .active ∧ headAfter c r + 1 = c.route.length ∧ r.speed = 0

/-- Of the context that a report brings, what steps 8 to 10 read. -/
structure StandsAt (r : MoveReq) (c d : Carrier) : Prop where
  state : d.state = c.state
  head : d.head = headAfter c r
  route : d.route = c.route
  speed : d.requestedSpeed = min r.speed.toNat 4095

section

variable {r : MoveReq} {slot : Nat} {c : Carrier} {w : State}

theorem completes_iff (h : StandsAt r c (w.carrier slot)) :
    ((w.carrier slot).state = .active && (w.carrier slot).head + 1 = (w.carrier slot).route.length &&
      (w.carrier slot).requestedSpeed = 0) = true ↔ Completes r c := by
  have speed : min r.speed.toNat 4095 = 0 ↔ r.speed = 0 := by
    rw [← BitVec.toNat_inj]
    change _ ↔ r.speed.toNat = 0
    omega
  simp only [h.state, h.head, h.route, h.speed, Completes, Bool.and_eq_true, decide_eq_true_eq, speed, and_assoc]

theorem finishRequest_completes (h : StandsAt r c (w.carrier slot)) (hc : Completes r c) :
    finishRequest slot w = completeRoute slot w := if_pos ((completes_iff h).mpr hc)

theorem finishRequest_goesOn (h : StandsAt r c (w.carrier slot)) (hc : ¬Completes r c) :
    finishRequest slot w = answerRequest slot w := if_neg fun x => hc ((completes_iff h).mp x)

theorem cutbackStep_none (h : (w.carrier slot).cutback = none) : cutbackStep slot w = finishRequest slot w := by
  rw [cutbackStep, h]

end

/-! ### A part that is not RUNNING gives back and gains nothing (R105) -/

/-- Holds have been given up for one carrier, and no other carrier's context and no wait differs. -/
structure OnlyGivesUp (slot : Nat) (s t : State) : Prop where
  holds : ∀ n sec, t.holdsSection n sec = true → s.holdsSection n sec = true
  others : ∀ n, n ≠ slot → t.carrier n = s.carrier n
  waits : t.waits = s.waits
  partState : t.partState = s.partState

theorem composes_onlyGivesUp (slot : Nat) : Composes (OnlyGivesUp slot) where
  refl _ := ⟨fun _ _ => id, fun _ _ => rfl, rfl, rfl⟩
  trans h k := ⟨fun n sec => h.holds n sec ∘ k.holds n sec, fun n hn => (k.others n hn).trans (h.others n hn),
    k.waits.trans h.waits, k.partState.trans h.partState⟩

section

variable {slot : Nat} {s t : State}

theorem holdsSection_of_holds (h : t.holds = s.holds) (n sec : Nat) : t.holdsSection n sec = s.holdsSection n sec := by
  simp only [State.holdsSection, holders_of_holds h]

theorem modifyCarrier_onlyGivesUp (slot : Nat) (f : Carrier → Carrier) (s : State) :
    OnlyGivesUp slot s (s.modifyCarrier slot f) where
  holds n sec h := by rwa [holdsSection_of_holds (modifyCarrier_holds _ _ _)] at h
  others n hn := by rw [carrier_modifyCarrier, if_neg fun h => hn h.1]
  waits := modifyCarrier_waits _ _ _
  partState := modifyCarrier_partState _ _ _

theorem portsOnly_onlyGivesUp (slot : Nat) (h : PortsOnly s t) : OnlyGivesUp slot s t where
  holds n sec hs := by rwa [holdsSection_of_holds h.traffic.holds] at hs
  others n _ := carrier_eq_of_carriers h.traffic.carriers n
  waits := h.traffic.waits
  partState := h.control.partState

theorem removeHolder_onlyGivesUp (slot sec : Nat) (s : State) : OnlyGivesUp slot s (removeHolder slot sec s).1 := by
  obtain ⟨carriers, waits, -, -⟩ := removeHolder_frame slot sec s
  refine ⟨fun n k h => ?_, fun n _ => carrier_eq_of_carriers carriers n, waits,
    (removeHolder_trafficOnly s slot sec).control.partState⟩
  rw [holdsSection_eq_isSome, holdStateOf_removeHolder] at h
  rw [holdsSection_eq_isSome]
  split at h
  · cases h
  · exact h

theorem release_onlyGivesUp (hp : s.partState ≠ .running) (sec : Nat) (requester : Option Nat) :
    OnlyGivesUp slot s (release slot sec requester s) := by
  have gone := removeHolder_onlyGivesUp slot sec s
  cases h : s.holdsSection slot sec with
  | false =>
    rw [release_notHeld s slot sec requester h]
    exact (composes_onlyGivesUp slot).refl s
  | true =>
    rw [release_held h, wake_notRunning _ _ _ (gone.partState.trans_ne hp)]
    exact gone

theorem trimOne_onlyGivesUp (hp : s.partState ≠ .running) : OnlyGivesUp slot s (trimOne slot s) := by
  have hR := composes_onlyGivesUp slot
  unfold trimOne
  split
  · exact hR.refl s
  · rename_i e rest _
    have released : OnlyGivesUp slot s
        (release slot e.sec (some slot) (s.modifyCarrier slot (fun c => { c with trail := rest }))) :=
      hR.trans (modifyCarrier_onlyGivesUp slot _ s)
        (release_onlyGivesUp (by rw [modifyCarrier_partState]; exact hp) _ _)
    dsimp only
    split
    · exact released
    · split
      · exact hR.trans released (modifyCarrier_onlyGivesUp slot _ _)
      · exact hR.trans released (hR.trans (portsOnly_onlyGivesUp slot (notice_portsOnly _ _ _))
          (modifyCarrier_onlyGivesUp slot _ _))

theorem trimMany_onlyGivesUp (hp : s.partState ≠ .running) (n : Nat) : OnlyGivesUp slot s (trimMany slot n s) := by
  induction n with
  | zero => exact (composes_onlyGivesUp slot).refl s
  | succ n ih =>
    rw [trimMany_succ]
    exact (composes_onlyGivesUp slot).trans ih (trimOne_onlyGivesUp (ih.partState.trans_ne hp))

theorem positioned_onlyGivesUp (r : MoveReq) (slot : Nat) (hp : s.partState ≠ .running) :
    OnlyGivesUp slot s (positioned r slot s) := by
  have hR := composes_onlyGivesUp slot
  have advanced := hR.trans (hR.trans (portsOnly_onlyGivesUp slot (dropFront_portsOnly s .c))
    (modifyCarrier_onlyGivesUp slot (notedContext r) _))
    (modifyCarrier_onlyGivesUp slot (advancedContext r.headIndex.toNat) _)
  exact hR.trans (hR.trans advanced (trimMany_onlyGivesUp (advanced.partState.trans_ne hp) _))
    (modifyCarrier_onlyGivesUp slot _ _)

end

/-! ### Completion and HALTED, with no cutback in flight -/

section

variable {r : MoveReq} {slot : Nat} {s : State} (good : GoodReport r slot s)

include good

theorem carrier_positioned :
    (positioned r slot s).carrier slot =
      { reportedContext r s (s.carrier slot) with
        trail := trailAfter (s.carrier slot) r
        releases := ((positioned r slot s).carrier slot).releases } := (positioned_followed good).context

theorem positioned_standsAt : StandsAt r (s.carrier slot) ((positioned r slot s).carrier slot) := by
  constructor <;> rw [carrier_positioned good] <;> rfl

/-- Without a cutback in flight, step 6 is followed by step 8 (R73). -/
theorem exec_noCutback (h : (s.carrier slot).cutback = none) :
    exec (.moveReq r) s = .next (finishRequest slot (positioned r slot s)) := by
  rw [exec_good good, cutbackStep_none (by rw [carrier_positioned good]; exact h)]

end

/-- Settles O39: step 6 (`positioned_followed`) and the completion (`completeRoute_answeredOn`). -/
theorem routeCompletesAtItsEnd : Obligations.RouteCompletesAtItsEnd := by
  intro r slot s good c active idle atEnd still
  have followed := positioned_followed good
  have answered := completeRoute_answeredOn followed.admitted
  have sent := answered.sentSince followed
  obtain ⟨back, bystanders, traffic⟩ := answered.followed followed rfl
  have context := answered.context
  have next := (exec_noCutback good idle).trans
    (congrArg _ (finishRequest_completes (positioned_standsAt good) ⟨active, atEnd, still⟩))
  refine ⟨completeRoute slot (positioned r slot s), next, ?_, ?_, ⟨positioned r slot s, ?_⟩, back, bystanders, traffic⟩
  · dsimp only
    rw [context, carrier_positioned good]
    exact ⟨rfl, rfl, rfl, rfl, rfl, rfl, rfl, rfl, rfl, rfl, ⟨rfl, rfl, rfl, rfl, rfl⟩⟩
  · rw [carrier_positioned good] at sent
    exact sent
  · rw [completeRoute_portD followed.admitted, carrier_positioned good, noticeOf_congr followed.rest]
    rfl

/-- Settles O40: step 6 in a part that is not RUNNING (`positioned_onlyGivesUp`), and the GRANT of step 9. -/
theorem haltedPartGrantsNoSpeed : Obligations.HaltedPartGrantsNoSpeed := by
  intro r slot s good halted c idle goes
  have followed := positioned_followed good
  have standing := carrier_positioned good
  have gives := positioned_onlyGivesUp r slot (s := s) (by rw [halted]; decide)
  generalize hz : positioned r slot s = z at followed standing gives
  have answered := sendGrant_answeredOn followed.admitted (haltedGrant z (z.carrier slot))
  have stored : (z.carrier slot).routeNumber ≠ 0 := by
    rw [standing]
    exact good.route.1 ▸ good.route.2
  have next : exec (.moveReq r) s = .next (sendGrant slot (haltedGrant z (z.carrier slot)) z) := by
    have goesOn : ¬Completes r c := fun ⟨active, atEnd, still⟩ => goes active atEnd still
    rw [exec_noCutback good idle, finishRequest_goesOn (positioned_standsAt good) goesOn, hz,
      answerRequest_halted (followed.rest.control.partState.trans halted) stored]
  have distance : (haltedGrant z (z.carrier slot)).distance = _ := (available_congr answered.span _).symm
  generalize sendGrant slot (haltedGrant z (z.carrier slot)) z = v at next answered distance
  have sent := answered.sentSince followed
  obtain ⟨back, -, traffic⟩ := answered.followed followed rfl
  have context := answered.context
  rw [distance] at sent
  rw [standing] at context sent
  have noted : ReportNoted r (v.carrier slot) := by
    rw [context]
    exact ⟨rfl, rfl, rfl, rfl, rfl⟩
  refine ⟨v, next, ⟨?_, ?_, ?_, ?_, ?_, ?_, noted, sent⟩, back, fun n sec h => gives.holds n sec ?_, fun n hn => ?_, ?_,
    traffic⟩
  · rw [context]; rfl
  · rw [context]; rfl
  · rw [context]; rfl
  · rw [context]
  · rw [context]; rfl
  · rw [context]; rfl
  · rwa [holdsSection_of_holds answered.only.holds] at h
  · rw [answered.only.others n hn, gives.others n hn]
  · rw [answered.only.waits, gives.waits]

/-! ### Step 10 (R76 to R82) -/

theorem answerRequest_notHalted {slot : Nat} {w : State} (hp : w.partState ≠ .halted) :
    answerRequest slot w = sendGrant slot (compute slot w).grant (compute slot w).state := if_neg hp

/-- Settles O20: the computation's end by the failure that ended the loop (`compute_unstopped`, `compute_closed`,
`settleWait_circle`, `settleWait_noCircle`), and the answer of a good report that goes on to step 10. -/
theorem computationsWaitAndGiveReasons : Obligations.ComputationsWaitAndGiveReasons := by
  refine ⟨fun slot s ha => ?_, fun r slot s good running => ?_⟩
  · intro l b c v d fresh waited granted ended
    have adm : b.admitted slot = true := admitted_loopEnd.trans ha
    have settled : WaitSettled slot b v := compute_settled slot s
    refine ⟨fun h => ?_, fun i sec h => compute_ends ha (compute_closed h) rfl, fun i sec reason blocker h => ?_,
      settled.holds, settled.occupancy, settled.others, settled.portC, settled.rest,
      fun g => condition_sendGrant (settled.admitted.trans adm) g⟩
    · obtain ⟨ended, grant⟩ := compute_ends ha (compute_unstopped h) rfl
      refine ⟨ended, fun hl => ?_, fun hl hv => ?_, fun hl hv => ?_⟩
      · exact grant.trans (congrArg (Grant.mk _ _ _ _) (if_pos hl))
      · exact grant.trans (congrArg (Grant.mk _ _ _ _) ((if_neg hl).trans (if_pos hv)))
      · exact grant.trans (congrArg (Grant.mk _ _ _ _) ((if_neg hl).trans (if_neg (Nat.not_lt.mpr hv))))
    · intro entry listed' walked circle
      refine ⟨fun visited hc => ?_, fun hc => ?_⟩
      · have eq := compute_eq ((congrArg (settleWait slot · b) h).trans (settleWait_circle (visited := visited) hc))
        obtain ⟨waits, context, portD⟩ := deadlocked_listWait (e := entry) adm visited
        have state : deadlocked entry visited (listWait entry b) = v := (congrArg Computation.state eq).symm
        rw [state] at waits context portD eq
        rw [noticeOf_congr (acquireLoop_trafficOnly s slot _ _)] at portD
        exact ⟨waits, context, portD, congrArg Computation.grant eq⟩
      · have eq := compute_eq ((congrArg (settleWait slot · b) h).trans (settleWait_noCircle hc))
        have state : listWait entry b = v := (congrArg Computation.state eq).symm
        obtain ⟨-, -, -, portD⟩ := listWait_frame entry b
        have waits := waits_listWait entry b
        have waited' := carrier_listWait_waited (e := entry) (s := b)
        have new := carrier_listWait_new (e := entry) adm
        rw [state] at portD waits waited' new eq
        exact ⟨waits, waited', new, portD, congrArg Computation.grant eq⟩
  · intro c active idle goes
    have followed := positioned_followed good
    have standing := carrier_positioned good
    refine ⟨positioned r slot s, ?_, followed.back.trailGivenBack, ?_, ?_, ?_, ?_, ?_, ?_⟩
    · rw [exec_noCutback good idle, finishRequest_goesOn (positioned_standsAt good) fun h => goes h.2,
        answerRequest_notHalted (by rw [followed.rest.control.partState, running]; decide)]
    all_goals rw [standing]
    · rfl
    · rfl
    · rfl
    · rfl
    · exact ⟨rfl, rfl, rfl, rfl, rfl⟩

end Sys2Proof.Proofs
end

section
/-! A cutback that a report ends by implicit decline (R73, R125), and the CUTBACK sent again. -/

namespace Sys2Proof.Proofs

open Sys2Proof Sys2Proof.Machine Sys2Proof.Laws

/-! ### Recalled holds become ACTIVE again (R125) -/

/-- Recalled holds of a carrier on listed sections are ACTIVE again: its context and its wait stand, its other holds
too, and carriers that wait for nothing are not touched. -/
structure Restored (slot : Nat) (secs : List Nat) (s t : State) : Prop where
  context : lookup t.carriers slot = lookup s.carriers slot
  states : ∀ k, t.holdStateOf slot k =
    if k ∈ secs ∧ s.holdStateOf slot k = some .recalling then some .active else s.holdStateOf slot k
  bystanders : ∀ n, n ≠ slot → s.waitOf n = none → Untouched n s t
  notices : NoProgress s t

/-- One section of `restoreHolds`. -/
def restoreOne (slot sec : Nat) (s : State) : State :=
  if s.holdStateOf slot sec = some .recalling then makeActive slot sec s else s

section

variable {slot sec : Nat} {secs : List Nat} {s t u : State}

theorem Restored.carrier (h : Restored slot secs s t) : t.carrier slot = s.carrier slot := by
  simp only [State.carrier, h.context]

theorem Restored.admitted (h : Restored slot secs s t) : t.admitted slot = s.admitted slot := by
  simp only [State.admitted, h.context]

theorem restored_refl (slot : Nat) (s : State) : Restored slot [] s s :=
  ⟨rfl, fun _ => (if_neg fun h => List.not_mem_nil h.1).symm, fun n _ _ => Untouched.refl n s, composes_noProgress.refl s⟩

theorem Restored.trans {more : List Nat} (h : Restored slot secs s t) (k : Restored slot more t u) :
    Restored slot (secs ++ more) s u where
  context := k.context.trans h.context
  states x := by
    rw [k.states, h.states]
    by_cases hr : s.holdStateOf slot x = some .recalling <;> by_cases hx : x ∈ secs <;> by_cases hy : x ∈ more <;>
      simp [hr, hx, hy]
  bystanders n hn hw :=
    (isFrame_untouched n).trans (h.bystanders n hn hw) (k.bystanders n hn ((h.bystanders n hn hw).wait.trans hw))
  notices := composes_noProgress.trans h.notices k.notices

theorem restoreHolds_eq_foldl (slot : Nat) (secs : List Nat) (s : State) :
    restoreHolds slot secs s = secs.foldl (fun s sec => restoreOne slot sec s) s := by
  induction secs generalizing s with
  | nil => rfl
  | cons sec secs ih => exact ih (restoreOne slot sec s)

theorem holders_ne_nil_of_holdStateOf {st : HoldState} (h : s.holdStateOf slot sec = some st) : s.holders sec ≠ [] :=
  holders_ne_nil_of_holdsSection (n := slot) (by rw [holdsSection_eq_isSome, h]; rfl)

/-- While the cutback record stands the Arbiter passes the carrier by (R105), so its own context stands (R125). -/
theorem restoreOne_restored (hc : (s.carrier slot).cutback.isSome = true) :
    Restored slot [sec] s (restoreOne slot sec s) := by
  unfold restoreOne
  split
  · rename_i recalled
    have turned := setHoldState_turned s slot sec .active (holders_ne_nil_of_holdStateOf recalled)
    have held : s.holdsSection slot sec = true := by rw [holdsSection_eq_isSome, recalled]; rfl
    have exempt : Exempt none slot (setHoldState slot sec .active s) :=
      .inr (.inl (by rw [carrier_eq_of_carriers turned.carriers]; exact hc))
    have own : Untouched slot (setHoldState slot sec .active s) (makeActive slot sec s) := wake_untouched exempt _
    constructor
    · rw [own.context, turned.carriers]
    · intro k
      rw [own.holds, holdStateOf_setHoldState]
      by_cases hk : k = sec
      · rw [if_pos ⟨rfl, hk, held⟩, if_pos ⟨List.mem_singleton.mpr hk, hk ▸ recalled⟩]
      · rw [if_neg fun h => hk h.2.1, if_neg fun h => hk (List.mem_singleton.mp h.1)]
    · intro n hn hw
      have before : Untouched n s (setHoldState slot sec .active s) :=
        ⟨by rw [turned.carriers], fun k => by rw [holdStateOf_setHoldState, if_neg fun h => hn h.1],
          by simp only [State.waitOf, turned.waits]⟩
      exact (isFrame_untouched n).trans before (wake_untouched (.inl (before.wait.trans hw)) _)
    · exact composes_noProgress.trans (noProgress_of_eq turned.portD) (wake_noProgress _ _ _)
  · rename_i standing
    refine ⟨rfl, fun k => (if_neg ?_).symm, fun n _ _ => Untouched.refl n s, composes_noProgress.refl s⟩
    rintro ⟨hk, recalled⟩
    exact standing (List.mem_singleton.mp hk ▸ recalled)

theorem restoreOne_holdRestored (hc : (s.carrier slot).cutback.isSome = true) :
    HoldRestored slot sec s (restoreOne slot sec s) := by
  refine ⟨fun recalled => ?_, fun standing => if_neg standing, (restoreOne_restored hc).carrier⟩
  exact ⟨_, setHoldState_turned s slot sec .active (holders_ne_nil_of_holdStateOf recalled), if_pos recalled⟩

theorem restoreHolds_restored (hc : (s.carrier slot).cutback.isSome = true) (secs : List Nat) :
    Restored slot secs s (restoreHolds slot secs s) := by
  induction secs generalizing s with
  | nil => exact restored_refl slot s
  | cons sec secs ih =>
    have one := restoreOne_restored (sec := sec) hc
    exact one.trans (ih (s := restoreOne slot sec s) (by rw [one.carrier]; exact hc))

theorem restoreHolds_inTurn (hc : (s.carrier slot).cutback.isSome = true) (secs : List Nat) :
    InTurn (HoldRestored slot) secs s (restoreHolds slot secs s) := by
  rw [restoreHolds_eq_foldl]
  exact inTurn_foldl (restoreOne slot) (fun u => (u.carrier slot).cutback.isSome = true)
    (fun sec u hu => ⟨restoreOne_holdRestored hu, by rw [(restoreOne_restored hu).carrier]; exact hu⟩) secs s hc

end

/-! ### A cutback ends without acceptance (R125) -/

/-- A context whose cutback has ended without acceptance (R125). -/
def endedContext (cond : Condition) (c : Carrier) : Carrier := { c with cutback := none, holdIdle := 0, condition := cond }

/-- The body of the notice of R125 (R159). -/
def cutbackEndBody (code : Byte) (slot : Nat) (k : CutbackRecord) (c : Carrier) : List Byte :=
  [code, byte slot] ++ halfBytes c.station ++ [c.routeNumber, k.number, byte k.target, byte c.head, byte c.limit]

section

variable {slot : Nat} {k : CutbackRecord} {cond : Condition} {code : Byte} {s : State}

theorem modifyCarrier_eq_putCarrier (ha : s.admitted slot = true) (f : Carrier → Carrier) :
    s.modifyCarrier slot f = s.putCarrier slot (f (s.carrier slot)) := by
  obtain ⟨c, hc⟩ := Option.isSome_iff_exists.mp ha
  simp only [State.modifyCarrier, State.putCarrier, State.carrier, hc, Option.getD_some]

/-- The recalled holds restored and the record gone, the notice not sent yet (R125). -/
def unaccepted (slot : Nat) (k : CutbackRecord) (cond : Condition) (s : State) : State :=
  (restoreHolds slot ((s.carrier slot).sectionsBetween k.target (s.carrier slot).limit) s).modifyCarrier slot
    (endedContext cond)

theorem endUnaccepted_eq (slot : Nat) (k : CutbackRecord) (cond : Condition) (code : Byte) (s : State) :
    endUnaccepted slot k cond code s = noticeCutback code slot k (unaccepted slot k cond s) :=
  congrArg (noticeCutback code slot k) (modifyCarrier_modifyCarrier _ slot _ _)

theorem unaccepted_trafficOnly (slot : Nat) (k : CutbackRecord) (cond : Condition) (s : State) :
    TrafficOnly s (unaccepted slot k cond s) :=
  TrafficOnly.trans (restoreHolds_trafficOnly s slot _) (modifyCarrier_trafficOnly _ slot _)

variable (ha : s.admitted slot = true) (hc : (s.carrier slot).cutback.isSome = true)

include ha hc

theorem carrier_unaccepted : (unaccepted slot k cond s).carrier slot = endedContext cond (s.carrier slot) := by
  have restored := restoreHolds_restored hc ((s.carrier slot).sectionsBetween k.target (s.carrier slot).limit)
  rw [unaccepted, carrier_modifyCarrier_same (restored.admitted.trans ha), restored.carrier]

theorem endUnaccepted_offered :
    endUnaccepted slot k cond code s =
      offerOwn .d (noticeOf s (cutbackEndBody code slot k (s.carrier slot))) (unaccepted slot k cond s) := by
  rw [endUnaccepted_eq, ← noticeOf_congr (unaccepted_trafficOnly slot k cond s), noticeCutback,
    carrier_unaccepted ha hc]
  rfl

theorem carrier_endUnaccepted :
    (endUnaccepted slot k cond code s).carrier slot = endedContext cond (s.carrier slot) := by
  rw [endUnaccepted_offered ha hc, carrier_eq_of_carriers (offerOwn_carriers _ .d _), carrier_unaccepted ha hc]

theorem admitted_endUnaccepted : (endUnaccepted slot k cond code s).admitted slot = true := by
  have restored := restoreHolds_restored hc ((s.carrier slot).sectionsBetween k.target (s.carrier slot).limit)
  rw [endUnaccepted_offered ha hc, admitted_eq_of_carriers (offerOwn_carriers _ .d _), unaccepted, admitted_modifyCarrier,
    restored.admitted, ha]

theorem holdStateOf_endUnaccepted (sec : Nat) :
    (endUnaccepted slot k cond code s).holdStateOf slot sec =
      if sec ∈ (s.carrier slot).sectionsBetween k.target (s.carrier slot).limit ∧ s.holdStateOf slot sec = some .recalling
      then some .active else s.holdStateOf slot sec := by
  have restored := restoreHolds_restored hc ((s.carrier slot).sectionsBetween k.target (s.carrier slot).limit)
  rw [endUnaccepted_offered ha hc, holdStateOf_of_holds (offerOwn_holds _ .d _), unaccepted,
    holdStateOf_of_holds (modifyCarrier_holds _ _ _), restored.states]

theorem endUnaccepted_bystanders (n : Nat) (hn : n ≠ slot) (hw : s.waitOf n = none) :
    Untouched n s (endUnaccepted slot k cond code s) := by
  have restored := restoreHolds_restored hc ((s.carrier slot).sectionsBetween k.target (s.carrier slot).limit)
  rw [endUnaccepted_offered ha hc]
  exact (isFrame_untouched n).trans ((isFrame_untouched n).trans (restored.bystanders n hn hw)
    (modifyCarrier_untouched _ hn)) ((isFrame_untouched n).ports (offerOwn_portsOnly _ .d _))

theorem endUnaccepted_cutbackEnded : CutbackEnded slot k cond code s (endUnaccepted slot k cond code s) where
  context := carrier_endUnaccepted ha hc
  states := holdStateOf_endUnaccepted ha hc
  notice := by
    have restored := restoreHolds_restored hc ((s.carrier slot).sectionsBetween k.target (s.carrier slot).limit)
    refine ⟨_, restoreHolds_inTurn hc _, (endUnaccepted_offered ha hc).trans (congrArg _ ?_)⟩
    rw [unaccepted, modifyCarrier_eq_putCarrier (restored.admitted.trans ha), restored.carrier]
    rfl
  bystanders := bystandersKept_of_untouched (endUnaccepted_bystanders ha hc)
  rest := endUnaccepted_trafficOnly s slot k cond code

end

end Sys2Proof.Proofs
end

section
/-! What a request's answer leaves of the context and of Port D (R70 to R82), and O42. -/

namespace Sys2Proof.Proofs

open Sys2Proof Sys2Proof.Machine Sys2Proof.Laws

/-! ### Frames join Port D's queue behind those that stood -/

/-- Frames have joined the outbound queue of Port D, and none has left. -/
def Lengthens (s t : State) : Prop := ∃ l, t.portD.outbound = s.portD.outbound ++ l

section

variable {s t u : State} {slot : Nat}

theorem composes_lengthens : Composes Lengthens where
  refl _ := ⟨[], (List.append_nil _).symm⟩
  trans := by
    rintro s t u ⟨l, hl⟩ ⟨m, hm⟩
    exact ⟨l ++ m, by rw [hm, hl, List.append_assoc]⟩

theorem lengthens_of_noProgress (h : NoProgress s t) : Lengthens s t := h.imp fun _ hl => hl.1

theorem lengthens_of_eq (h : t.portD = s.portD) : Lengthens s t := lengthens_of_noProgress (noProgress_of_eq h)

theorem offerOwn_lengthens (f : Frame) (s : State) : Lengthens s (offerOwn .d f s) :=
  (told_offerOwn f s).imp fun _ hl => hl.1

theorem modifyCarrier_lengthens (slot : Nat) (f : Carrier → Carrier) (s : State) :
    Lengthens s (s.modifyCarrier slot f) := lengthens_of_eq (modifyCarrier_portD _ _ _)

theorem trimOne_lengthens (slot : Nat) (s : State) : Lengthens s (trimOne slot s) := by
  have hR := composes_lengthens
  unfold trimOne
  split
  · exact hR.refl s
  · rename_i e rest _
    have released := hR.trans (modifyCarrier_lengthens slot (fun c => { c with trail := rest }) s)
      (lengthens_of_noProgress (release_givenBack slot e.sec _).notices)
    dsimp only
    split
    · exact released
    · split
      · exact hR.trans released (modifyCarrier_lengthens slot _ _)
      · exact hR.trans released (hR.trans (offerOwn_lengthens _ _) (modifyCarrier_lengthens slot _ _))

theorem trimMany_lengthens (slot n : Nat) (s : State) : Lengthens s (trimMany slot n s) := by
  induction n with
  | zero => exact composes_lengthens.refl s
  | succ n ih =>
    rw [trimMany_succ]
    exact composes_lengthens.trans ih (trimOne_lengthens slot _)

theorem positioned_lengthens (r : MoveReq) (slot : Nat) (s : State) : Lengthens s (positioned r slot s) := by
  have hR := composes_lengthens
  have taken : Lengthens s (dropFront .c s) := lengthens_of_eq rfl
  exact hR.trans (hR.trans (hR.trans (hR.trans taken (modifyCarrier_lengthens slot (notedContext r) _))
    (modifyCarrier_lengthens slot (advancedContext r.headIndex.toNat) _)) (trimMany_lengthens slot _ _))
    (modifyCarrier_lengthens slot _ _)

/-- A frame offered to Port D stands in what has been appended since, unless the queue is full at the end. -/
theorem mem_appended_of_offered {f : Frame} {a b v : State} (before : Lengthens s a) (hb : b.portD = (offerOwn .d f a).portD)
    (after : Lengthens b v) (room : v.portD.outbound.length < 16) : f ∈ appended .d s v := by
  obtain ⟨l, hl⟩ := before
  obtain ⟨m, hm⟩ := after
  rw [hb, portD_offerOwn] at hm
  have free : a.portD.outbound.length < 16 := by
    by_contra full
    rw [if_neg full] at hm
    rw [hm, List.length_append] at room
    dsimp only at room
    omega
  rw [if_pos free] at hm
  change f ∈ v.portD.outbound.drop s.portD.outbound.length
  rw [hm]
  change f ∈ ((a.portD.outbound ++ [f]) ++ m).drop s.portD.outbound.length
  rw [hl, List.append_assoc, List.append_assoc, List.drop_append_of_le_length (le_refl _), List.drop_length]
  simp

end

/-! ### The context that a computation leaves (R76 to R78, R97, R110) -/

/-- Of a context, a computation changes the limit, the trail, the fields of the wait and the condition alone. -/
def Computed (c d : Carrier) : Prop :=
  d = { c with
    limit := d.limit
    trail := d.trail
    passedOver := d.passedOver
    effectivePriority := d.effectivePriority
    condition := d.condition }

/-- The carrier stays admitted and its context changes as a computation may change it. -/
def ComputesFor (slot : Nat) (s t : State) : Prop :=
  s.admitted slot = true → t.admitted slot = true ∧ Computed (s.carrier slot) (t.carrier slot)

theorem Computed.trans {c d e : Carrier} (h : Computed c d) (k : Computed d e) : Computed c e :=
  (show e = _ from k).trans (by rw [show d = _ from h])

theorem composes_computesFor (slot : Nat) : Composes (ComputesFor slot) where
  refl _ ha := ⟨ha, rfl⟩
  trans h k ha := ⟨(k (h ha).1).1, (h ha).2.trans (k (h ha).1).2⟩

section

variable {slot : Nat} {s : State}

theorem acquire_computesFor {e : RouteEntry} (h : attempt s slot e = none) : ComputesFor slot s (acquire slot e s) := by
  intro ha
  refine ⟨(acquire_actsFor h).admitted.trans ha, ?_⟩
  by_cases hw : Wants s slot e.sec
  · rw [carrier_acquire_wanted ha hw]
    rfl
  · rw [carrier_acquire_unwanted ha hw]
    rfl

/-- Of a context, the wait's update changes the fields of the wait and the condition alone (R97, R100, R110). -/
def WaitFields (c d : Carrier) : Prop :=
  d = { c with passedOver := d.passedOver, effectivePriority := d.effectivePriority, condition := d.condition }

theorem endWait_waitFields (ha : s.admitted slot = true) : WaitFields (s.carrier slot) ((endWait slot s).carrier slot) := by
  rw [carrier_endWait ha]
  rfl

theorem listWait_waitFields {e : WaitEntry} (ha : s.admitted e.slot = true) :
    WaitFields (s.carrier e.slot) ((listWait e s).carrier e.slot) := by
  by_cases hw : (s.waitOf e.slot).isSome = true
  · rw [carrier_listWait_waited hw]
    rfl
  · rw [carrier_listWait_new ha hw]
    rfl

theorem settleWait_waitFields (ha : s.admitted slot = true) (stop : Option Stop) :
    WaitFields (s.carrier slot) ((settleWait slot stop s).1.carrier slot) := by
  obtain ⟨w, -, eq⟩ | ⟨e, visited, rfl, eq⟩ | ⟨e, rfl, eq⟩ := settleWait_cases slot stop s
  all_goals rw [eq]
  · exact endWait_waitFields ha
  · obtain ⟨-, context, -⟩ := deadlocked_listWait ha visited
    rw [context]
    rfl
  · exact listWait_waitFields ha

theorem WaitFields.computed {c d : Carrier} (h : WaitFields c d) : Computed c d :=
  (show d = _ from h).trans (by rw [show d = _ from h])

theorem settleWait_computesFor (slot : Nat) (stop : Option Stop) (s : State) :
    ComputesFor slot s (settleWait slot stop s).1 :=
  fun ha => ⟨(settleWait_settled slot stop s).admitted.trans ha, (settleWait_waitFields ha stop).computed⟩

theorem compute_computesFor (slot : Nat) (s : State) : ComputesFor slot s (compute slot s).state :=
  (composes_computesFor slot).trans
    (acquireLoop_relates (composes_computesFor slot) slot (fun _ _ _ _ h => acquire_computesFor h) _ _ s)
    (settleWait_computesFor slot _ _)

end

/-! ### Step 7 (R73) -/

section

variable {r : MoveReq} {slot : Nat} {s : State} {k : CutbackRecord}

/-- The CUTBACK is sent again, byte for byte (R73). -/
theorem cutbackStep_again {w : State} (h : (w.carrier slot).cutback = some k) (hk : (w.carrier slot).head ≤ k.target) :
    cutbackStep slot w = sendAnswer slot k.frame w := by
  rw [cutbackStep, h]
  exact if_neg (Nat.not_lt.mpr hk)

/-- The cutback ends by implicit decline and steps 8 to 10 follow (R73). -/
theorem cutbackStep_declines {w : State} (h : (w.carrier slot).cutback = some k) (hk : k.target < (w.carrier slot).head) :
    cutbackStep slot w = finishRequest slot (declineCutback slot k w) := by
  rw [cutbackStep, h]
  exact if_pos hk

theorem carrier_sendAnswer_same {f : Frame} (ha : s.admitted slot = true) :
    (sendAnswer slot f s).carrier slot = { s.carrier slot with lastAnswer := some f } := by
  rw [sendAnswer_carrier, if_pos ⟨rfl, ha⟩]

end

/-! ### What steps 8 to 10 leave -/

section

variable {slot : Nat} {w : State}

theorem completeRoute_actsFor (slot : Nat) (w : State) : ActsFor slot w (completeRoute slot w) :=
  (composes_actsFor slot).trans ((composes_actsFor slot).trans (notice_actsFor (by decide) slot _ w)
    (modifyCarrier_actsFor slot completedContext _)) (sendGrant_actsFor slot _ _)

theorem answerRequest_actsFor (slot : Nat) (w : State) : ActsFor slot w (answerRequest slot w) := by
  unfold answerRequest
  split
  · exact sendGrant_actsFor slot _ w
  · exact (composes_actsFor slot).trans (compute_actsFor slot w) (sendGrant_actsFor slot _ _)

theorem finishRequest_actsFor (slot : Nat) (w : State) : ActsFor slot w (finishRequest slot w) := by
  unfold finishRequest
  dsimp only
  split
  · exact completeRoute_actsFor slot w
  · exact answerRequest_actsFor slot w

theorem finishRequest_trafficOnly (slot : Nat) (w : State) : TrafficOnly w (finishRequest slot w) := by
  unfold finishRequest
  dsimp only
  split
  · exact TrafficOnly.trans (TrafficOnly.trans (PortsOnly.trafficOnly (notice_portsOnly w _ _))
      (modifyCarrier_trafficOnly _ slot completedContext)) (sendGrant_trafficOnly _ slot _)
  · unfold answerRequest
    split
    · exact sendGrant_trafficOnly w slot _
    · exact TrafficOnly.trans (compute_trafficOnly w slot) (sendGrant_trafficOnly _ slot _)

/-- Of a context, what steps 8 to 10 leave alone: the report's note, and the cutback record. -/
structure NoteKept (c d : Carrier) : Prop where
  cutback : d.cutback = c.cutback
  noted : ∀ r, ReportNoted r c → ReportNoted r d

theorem noteKept_of_fields {c d : Carrier} (cutback : d.cutback = c.cutback) (sequence : d.lastSequence = c.lastSequence)
    (speed : d.requestedSpeed = c.requestedSpeed) (badRun : d.badRun = c.badRun) (silence : d.silence = c.silence)
    (probeSent : d.probeSent = c.probeSent) : NoteKept c d :=
  ⟨cutback, fun _ h => ⟨sequence.trans h.sequence, speed.trans h.speed, badRun.trans h.badRun, silence.trans h.silence,
    probeSent.trans h.probeSent⟩⟩

theorem AnsweredOn.noteKept {c d : Carrier} {g : Grant} {v : State} (a : AnsweredOn slot d g w v) (h : NoteKept c d) :
    NoteKept c (v.carrier slot) := by
  have kept : NoteKept d (v.carrier slot) := by
    rw [a.context]
    exact noteKept_of_fields rfl rfl rfl rfl rfl rfl
  exact ⟨kept.cutback.trans h.cutback, fun r hr => kept.noted r (h.noted r hr)⟩

theorem finishRequest_noteKept (ha : w.admitted slot = true) :
    NoteKept (w.carrier slot) ((finishRequest slot w).carrier slot) := by
  unfold finishRequest
  dsimp only
  split
  · exact (completeRoute_answeredOn ha).noteKept (noteKept_of_fields rfl rfl rfl rfl rfl rfl)
  · unfold answerRequest
    split
    · exact (sendGrant_answeredOn ha _).noteKept (noteKept_of_fields rfl rfl rfl rfl rfl rfl)
    · obtain ⟨adm, computed⟩ := compute_computesFor slot w ha
      have kept : NoteKept (w.carrier slot) ((compute slot w).state.carrier slot) := by
        rw [computed]
        exact noteKept_of_fields rfl rfl rfl rfl rfl rfl
      exact (sendGrant_answeredOn adm _).noteKept kept

end

/-- The state that the implicit decline of a report leaves, steps 8 to 10 not taken yet (R73, R125). -/
def declined (r : MoveReq) (slot : Nat) (k : CutbackRecord) (s : State) : State :=
  declineCutback slot k (positioned r slot s)

section

variable {r : MoveReq} {slot : Nat} {s : State} (good : GoodReport r slot s)

include good

theorem declined_trafficOnly (k : CutbackRecord) : TrafficOnly s (declined r slot k s) :=
  TrafficOnly.trans (positioned_followed good).rest (endUnaccepted_trafficOnly _ slot k _ _)

theorem exec_again {k : CutbackRecord} (record : (s.carrier slot).cutback = some k)
    (h : headAfter (s.carrier slot) r ≤ k.target) :
    exec (.moveReq r) s = .next (sendAnswer slot k.frame (positioned r slot s)) := by
  have standing := carrier_positioned good
  rw [exec_good good, cutbackStep_again (by rw [standing]; exact record) (by rw [standing]; exact h)]

end

section

variable {r : MoveReq} {slot : Nat} {s : State} {k : CutbackRecord} (good : GoodReport r slot s)
  (record : (s.carrier slot).cutback = some k)

include good record

theorem cutback_positioned : ((positioned r slot s).carrier slot).cutback = some k := by
  rw [carrier_positioned good]
  exact record

theorem exec_declines (h : k.target < headAfter (s.carrier slot) r) :
    exec (.moveReq r) s = .next (finishRequest slot (declined r slot k s)) := by
  have head : ((positioned r slot s).carrier slot).head = headAfter (s.carrier slot) r := by
    rw [carrier_positioned good]
    rfl
  rw [exec_good good, cutbackStep_declines (cutback_positioned good record) (by rw [head]; exact h)]
  rfl

theorem declined_cutbackEnded :
    CutbackEnded slot k .cutbackDeclined 0x08 (positioned r slot s) (declined r slot k s) :=
  endUnaccepted_cutbackEnded (positioned_followed good).admitted
    (Option.isSome_iff_exists.mpr ⟨k, cutback_positioned good record⟩)

theorem admitted_declined : (declined r slot k s).admitted slot = true :=
  admitted_endUnaccepted (positioned_followed good).admitted
    (Option.isSome_iff_exists.mpr ⟨k, cutback_positioned good record⟩)

theorem declined_bystanders (n : Nat) (hn : n ≠ slot) (hw : s.waitOf n = none) : Untouched n s (declined r slot k s) := by
  have followed := positioned_followed good
  have before := followed.bystanders n hn hw
  exact (isFrame_untouched n).trans before (endUnaccepted_bystanders followed.admitted
    (Option.isSome_iff_exists.mpr ⟨k, cutback_positioned good record⟩) n hn (before.wait.trans hw))

theorem carrier_declined :
    (declined r slot k s).carrier slot =
      { reportedContext r s (s.carrier slot) with
        trail := trailAfter (s.carrier slot) r
        releases := ((positioned r slot s).carrier slot).releases
        cutback := none
        holdIdle := 0
        condition := .cutbackDeclined } := by
  rw [(declined_cutbackEnded good record).context, carrier_positioned good]

theorem declined_standsAt : StandsAt r (s.carrier slot) ((declined r slot k s).carrier slot) := by
  constructor <;> rw [carrier_declined good record] <;> rfl

theorem declined_recalled (sec : Nat)
    (h : sec ∈ (s.carrier slot).sectionsBetween k.target (s.carrier slot).limit) :
    (declined r slot k s).holdStateOf slot sec ≠ some .recalling := by
  have sections : ((positioned r slot s).carrier slot).sectionsBetween k.target ((positioned r slot s).carrier slot).limit =
      (s.carrier slot).sectionsBetween k.target (s.carrier slot).limit := by
    rw [carrier_positioned good]
    rfl
  rw [(declined_cutbackEnded good record).states, sections]
  split
  · decide +revert
  · rename_i standing
    exact fun recalled => standing ⟨h, recalled⟩

/-- The notice of the decline is among the frames offered to Port D (R125). -/
theorem declined_notice {v : State} (after : NoProgress (declined r slot k s) v) (room : v.portD.outbound.length < 16) :
    noticeOf s (cutbackEndBody 0x08 slot k ((positioned r slot s).carrier slot)) ∈ appended .d s v := by
  have followed := positioned_followed good
  have isSome := Option.isSome_iff_exists.mpr ⟨k, cutback_positioned good record⟩
  have restored := restoreHolds_restored isSome
    (((positioned r slot s).carrier slot).sectionsBetween k.target ((positioned r slot s).carrier slot).limit)
  have before : Lengthens s (unaccepted slot k .cutbackDeclined (positioned r slot s)) :=
    composes_lengthens.trans (composes_lengthens.trans (positioned_lengthens r slot s)
      (lengthens_of_noProgress restored.notices)) (modifyCarrier_lengthens slot _ _)
  have offered := endUnaccepted_offered (cond := .cutbackDeclined) (code := 0x08) (k := k) followed.admitted isSome
  rw [noticeOf_congr followed.rest] at offered
  exact mem_appended_of_offered before (congrArg State.portD offered) (lengthens_of_noProgress after) room

end

/-- Settles O42: the CUTBACK again on the state of step 6, or the decline (`declined_cutbackEnded`) and steps 8 to 10. -/
theorem cutbackComesBeforeTheGrant : Obligations.CutbackComesBeforeTheGrant := by
  intro r slot s k good c record
  have followed := positioned_followed good
  have standing := carrier_positioned good
  refine ⟨fun below => ?_, fun beyond => ?_⟩
  · have context := carrier_sendAnswer_same (f := k.frame) followed.admitted
    have acts := sendAnswer_actsFor slot k.frame (positioned r slot s)
    have states (sec : Nat) : (sendAnswer slot k.frame (positioned r slot s)).holdStateOf slot sec =
        (positioned r slot s).holdStateOf slot sec := holdStateOf_of_holds (sendAnswer_holds _ _ _) slot sec
    have back := followed.back.leave states (by rw [context]) acts.notices
    refine ⟨_, _, exec_again good record below, rfl, ?_, back.trailGivenBack, fun sec h => ?_, ?_, ?_⟩
    · dsimp only
      rw [context, standing]
      exact ⟨rfl, record, rfl, rfl, rfl, rfl, rfl, ⟨rfl, rfl, rfl, rfl, rfl⟩⟩
    · rw [holdsSection_eq_isSome, back.states] at h
      rw [holdsSection_eq_isSome]
      split at h
      · cases h
      · exact h
    · exact bystandersKept_of_untouched fun n hn hw =>
        (isFrame_untouched n).trans (followed.bystanders n hn hw) (acts.others n hn)
    · exact TrafficOnly.trans followed.rest (sendAnswer_trafficOnly _ slot _)
  · intro completes
    have ended := declined_cutbackEnded good record
    have ha := admitted_declined good record
    have context := carrier_declined good record
    have stands := declined_standsAt good record
    have traffic := declined_trafficOnly good k
    have acts := finishRequest_actsFor slot (declined r slot k s)
    have kept := finishRequest_noteKept ha
    refine ⟨positioned r slot s, declined r slot k s, finishRequest slot (declined r slot k s),
      exec_declines good record beyond, ?_, followed.back.trailGivenBack, bystandersKept_of_untouched followed.bystanders,
      followed.rest, ended, fun h => ?_, fun h halted => ?_, fun h running => ?_, ?_, ?_, fun sec hs => ?_,
      fun room => ?_, ?_, TrafficOnly.trans traffic (finishRequest_trafficOnly slot _)⟩
    · dsimp only
      rw [standing]
      exact ⟨record, rfl, rfl, rfl, rfl, rfl, ⟨rfl, rfl, rfl, rfl, rfl⟩⟩
    · have answered := completeRoute_answeredOn ha
      have portD := completeRoute_portD ha
      have sent := answered.sent
      have after := answered.context
      rw [finishRequest_completes stands h]
      rw [context, noticeOf_congr traffic] at portD
      rw [context] at sent after
      refine ⟨answered.only, sent, portD, ?_⟩
      dsimp only
      rw [after]
      exact ⟨rfl, rfl, rfl, rfl, rfl, rfl, rfl, rfl⟩
    · have stored : ((declined r slot k s).carrier slot).routeNumber ≠ 0 := by
        rw [context]
        exact good.route.1 ▸ good.route.2
      have answered := sendGrant_answeredOn ha (haltedGrant (declined r slot k s) ((declined r slot k s).carrier slot))
      rw [finishRequest_goesOn stands h, answerRequest_halted (traffic.control.partState.trans halted) stored]
      refine ⟨answered.only, sendGrant_portD _ _ _, ?_⟩
      have distance : (haltedGrant (declined r slot k s) ((declined r slot k s).carrier slot)).distance = _ :=
        (available_congr answered.span _).symm
      have sent := answered.sent
      have after := answered.context
      rw [distance] at sent
      generalize sendGrant slot (haltedGrant _ _) _ = v at sent after
      rw [context] at sent after
      refine ⟨sent, ?_⟩
      rw [after]
      exact ⟨rfl, rfl, rfl, rfl, rfl, rfl, rfl⟩
    · rw [finishRequest_goesOn stands h, answerRequest_notHalted (traffic.control.partState.trans_ne running)]
    · rw [kept.cutback, context]
    · exact kept.noted r (by rw [context]; exact ⟨rfl, rfl, rfl, rfl, rfl⟩)
    · rcases acts.own sec with same | ⟨-, active⟩
      · rw [same]
        exact declined_recalled good record sec hs
      · rw [active]
        decide
    · have told := declined_notice good record acts.notices room
      rw [standing] at told
      exact told
    · exact bystandersKept_of_untouched fun n hn hw =>
        (isFrame_untouched n).trans (declined_bystanders good record n hn hw) (acts.others n hn)

end Sys2Proof.Proofs
end

section
/-! The GRANT of step 10 (R79, R85 to R91): within space the carrier holds it can stop, and no faster than it may. -/

namespace Sys2Proof.Proofs

open Sys2Proof Sys2Proof.Machine Sys2Proof.Laws

/-! ### The permitted speed (R85, R89, R90) -/

section

variable {s : State} {c : Carrier}

theorem foldl_min_le (l : List Nat) (a : Nat) : l.foldl min a ≤ a ∧ ∀ x ∈ l, l.foldl min a ≤ x := by
  induction l generalizing a with
  | nil => exact ⟨le_refl a, fun _ h => absurd h List.not_mem_nil⟩
  | cons x l ih =>
    obtain ⟨first, rest⟩ := ih (min a x)
    refine ⟨first.trans (Nat.min_le_left _ _), fun y hy => ?_⟩
    rcases List.mem_cons.mp hy with rfl | hy
    · exact first.trans (Nat.min_le_right _ _)
    · exact rest y hy

theorem secondClamp_le_firstClamp : secondClamp s c ≤ firstClamp s c := (foldl_min_le _ _).1

theorem secondClamp_le_ahead {e : RouteEntry} (h : e ∈ c.ahead) : secondClamp s c ≤ s.speedLimitOf e.sec :=
  (foldl_min_le _ _).2 _ (List.mem_map_of_mem h)

theorem speedSearch_le (g k : Nat) : speedSearch s c g k ≤ 50 * k := by
  induction k with
  | zero => exact le_refl 0
  | succ k ih =>
    unfold speedSearch
    split
    · exact le_refl _
    · exact ih.trans (by omega)

theorem speedSearch_fits (g k : Nat) : need s c (speedSearch s c g k) ≤ g ∨ speedSearch s c g k = 0 := by
  induction k with
  | zero => exact .inr rfl
  | succ k ih =>
    unfold speedSearch
    split
    · rename_i h
      exact .inl h
    · exact ih

theorem permittedSpeed_le_secondClamp : permittedSpeed s c ≤ secondClamp s c := by
  unfold permittedSpeed
  dsimp only
  split
  · exact le_refl _
  · split
    · exact (speedSearch_le _ _).trans (Nat.mul_div_le _ 50)
    · exact Nat.zero_le _

/-- From the permitted speed the carrier stops within the available distance, or it is 0 (R90). -/
theorem permittedSpeed_fits :
    need s c (permittedSpeed s c) ≤ available s c c.limit ∨ permittedSpeed s c = 0 := by
  unfold permittedSpeed
  dsimp only
  split
  · rename_i h
    exact .inl h
  · split
    · exact speedSearch_fits _ _
    · exact .inr rfl

end

/-! ### What the carrier holds, through trimming and acquisition (R25, R71, R77) -/

/-- Every section from the trail to the limit is held by the carrier (R25). -/
def HoldsAll (slot : Nat) (s : State) : Prop :=
  ∀ sec ∈ (s.carrier slot).heldSections, s.holdsSection slot sec = true

theorem mem_heldSections {c : Carrier} {sec : Nat} :
    sec ∈ c.heldSections ↔ (∃ e ∈ c.trail, e.sec = sec) ∨ sec = c.headSection ∨ ∃ e ∈ c.ahead, e.sec = sec := by
  simp [Carrier.heldSections]

/-- One entry more is ahead when the limit rises, or none where the limit lies before the head (R77). -/
theorem mem_ahead_succ {c d : Carrier} {x e : RouteEntry} (hr : d.route = c.route) (hh : d.head = c.head)
    (hl : d.limit = c.limit + 1) (he : c.route[c.limit + 1]? = some e) (hx : x ∈ d.ahead) : x ∈ c.ahead ∨ x = e := by
  obtain ⟨i, hi⟩ := List.mem_iff_getElem?.mp hx
  rw [ahead_getElem?, hr, hh, hl] at hi
  split at hi
  · by_cases hlast : i < c.limit - c.head
    · refine .inl (List.mem_iff_getElem?.mpr ⟨i, ?_⟩)
      rw [ahead_getElem?, if_pos hlast, hi]
    · rw [show c.head + 1 + i = c.limit + 1 by omega, he] at hi
      exact .inr (Option.some.inj hi).symm
  · cases hi

section

variable {slot : Nat} {s : State} {e : RouteEntry}

/-- The loop's invariant: within its route, the carrier holds all it has (R88). -/
structure Rolls (slot n : Nat) (s : State) : Prop where
  admitted : s.admitted slot = true
  route : (s.carrier slot).route.length = n
  limit : (s.carrier slot).limit < n
  holds : HoldsAll slot s

theorem trail_acquire (ha : s.admitted slot = true) :
    ((acquire slot e s).carrier slot).trail = (s.carrier slot).trail.filter (fun x => x.sec ≠ e.sec) ∧
      ((acquire slot e s).carrier slot).limit = (s.carrier slot).limit + 1 ∧
      ((acquire slot e s).carrier slot).route = (s.carrier slot).route ∧
      ((acquire slot e s).carrier slot).head = (s.carrier slot).head ∧
      ((acquire slot e s).carrier slot).headSection = (s.carrier slot).headSection := by
  by_cases h : Wants s slot e.sec
  · rw [carrier_acquire_wanted ha h]
    exact ⟨rfl, rfl, rfl, rfl, rfl⟩
  · rw [carrier_acquire_unwanted ha h]
    exact ⟨rfl, rfl, rfl, rfl, rfl⟩

/-- An acquired section is held afterwards: newly, or as it was held in the trail (R57, R60). -/
theorem holdsSection_acquire (held : HoldsAll slot s) (passes : attempt s slot e = none) :
    (acquire slot e s).holdsSection slot e.sec = true := by
  cases ht : (s.carrier slot).inTrail e.sec with
  | true => exact (acquire_actsFor passes).holdsSection (held _ (mem_heldSections.mpr (.inl (inTrail_iff.mp ht))))
  | false =>
    have hold := hold_acquire_new (k := e.sec) ht
    rw [hold_addHolder, if_pos rfl] at hold
    simp [State.holdsSection, State.holders, hold]

theorem acquire_rolls {n : Nat} (h : Rolls slot n s) (more : wantsMore s (s.carrier slot) = true)
    (he : (s.carrier slot).route[(s.carrier slot).limit + 1]? = some e) (passes : attempt s slot e = none) :
    Rolls slot n (acquire slot e s) := by
  obtain ⟨trail, limit, route, head, headSection⟩ := trail_acquire (e := e) h.admitted
  have acts := acquire_actsFor passes
  refine ⟨acts.admitted.trans h.admitted, by rw [route, h.route], ?_, fun sec hs => ?_⟩
  · simp only [wantsMore, Bool.and_eq_true, decide_eq_true_eq] at more
    obtain ⟨⟨-, within⟩, -⟩ := more
    rw [limit, ← h.route]
    exact within
  · rcases mem_heldSections.mp hs with ⟨x, hx, rfl⟩ | rfl | ⟨x, hx, rfl⟩
    · rw [trail] at hx
      exact acts.holdsSection (h.holds _ (mem_heldSections.mpr (.inl ⟨x, List.mem_of_mem_filter hx, rfl⟩)))
    · rw [headSection]
      exact acts.holdsSection (h.holds _ (mem_heldSections.mpr (.inr (.inl rfl))))
    · rcases mem_ahead_succ route head limit he hx with old | rfl
      · exact acts.holdsSection (h.holds _ (mem_heldSections.mpr (.inr (.inr ⟨x, old, rfl⟩))))
      · exact holdsSection_acquire h.holds passes

end

/-! ### A computation keeps what is held (R76 to R78, R97) -/

section

variable {slot : Nat} {s t : State}

/-- The loop keeps its invariant, and the limit is not lowered (R88). -/
def RollsOn (slot n : Nat) (s t : State) : Prop :=
  Rolls slot n s → Rolls slot n t ∧ (s.carrier slot).limit ≤ (t.carrier slot).limit

theorem composes_rollsOn (slot n : Nat) : Composes (RollsOn slot n) where
  refl _ h := ⟨h, le_refl _⟩
  trans h k rolls := ⟨(k (h rolls).1).1, (h rolls).2.trans (k (h rolls).1).2⟩

theorem acquireLoop_rollsOn (slot n fuel : Nat) (gained : Bool) (s : State) :
    RollsOn slot n s (acquireLoop slot fuel gained s).state := by
  refine acquireLoop_relates (composes_rollsOn slot n) slot (fun e u more he passes rolls => ?_) fuel gained s
  obtain ⟨-, limit, -⟩ := trail_acquire (e := e) rolls.admitted
  exact ⟨acquire_rolls rolls more he passes, limit ▸ Nat.le_succ _⟩

theorem holdsAll_congr (hh : t.holds = s.holds) (hs : (t.carrier slot).heldSections = (s.carrier slot).heldSections)
    (h : HoldsAll slot s) : HoldsAll slot t := by
  intro sec hm
  rw [holdsSection_of_holds hh]
  exact h sec (hs ▸ hm)

theorem compute_rollsOn (slot n : Nat) (s : State) : RollsOn slot n s (compute slot s).state := by
  have loop : RollsOn slot n s (loopEnd slot s).state := acquireLoop_rollsOn slot n _ false s
  refine (composes_rollsOn slot n).trans loop fun rolls => ?_
  have settled := settleWait_settled slot (loopEnd slot s).stop (loopEnd slot s).state
  have fields : WaitFields ((loopEnd slot s).state.carrier slot) ((compute slot s).state.carrier slot) :=
    settleWait_waitFields rolls.admitted (loopEnd slot s).stop
  refine ⟨⟨settled.admitted.trans rolls.admitted, ?_, ?_, holdsAll_congr settled.holds ?_ rolls.holds⟩, ?_⟩
  all_goals rw [show (compute slot s).state.carrier slot = _ from fields]
  · exact rolls.route
  · exact rolls.limit
  · rfl

/-- The carrier is left on the wait list exactly where the outcome says so (R78, R97, R98). -/
theorem settleWait_waiting_iff (slot : Nat) (stop : Option Stop) (s : State) :
    (settleWait slot stop s).2 = .waiting ↔ ((settleWait slot stop s).1.waitOf slot).isSome = true := by
  have ended {w : WaitOutcome} {t : State} (hw : w ≠ .waiting) (ht : t.waits = s.waits.filter (fun w => w.slot ≠ slot)) :
      w = .waiting ↔ (t.waitOf slot).isSome = true := by
    refine iff_of_false hw fun waits => ?_
    obtain ⟨e, he, hs⟩ := waitOf_isSome_iff.mp waits
    rw [ht] at he
    exact of_decide_eq_true (List.mem_filter.mp he).2 hs
  obtain ⟨w, hw, eq⟩ | ⟨e, visited, rfl, eq⟩ | ⟨e, rfl, eq⟩ := settleWait_cases slot stop s
  all_goals rw [eq]
  · exact ended hw (waits_endWait s slot)
  · exact ended (w := .deadlock) (by decide) (waits_deadlocked_listWait e visited s)
  · rw [waitOf_listWait]
    exact iff_of_true rfl rfl

theorem grantReason_waiting_iff (s : State) (c : Carrier) (w : WaitOutcome) (vp : Nat) :
    (grantReason s c w vp).code = 0x02 ↔ w = .waiting := by
  cases w <;> simp only [grantReason]
  · refine iff_of_false ?_ (by decide)
    split
    · decide
    · split <;> decide
  all_goals decide

theorem compute_reason_iff (slot : Nat) (s : State) :
    (compute slot s).grant.reason.code = 0x02 ↔ ((compute slot s).state.waitOf slot).isSome = true :=
  (grantReason_waiting_iff _ _ _ _).trans (settleWait_waiting_iff slot _ _)

end

/-! ### What the carrier holds when step 10 begins (R70, R71) -/

section

variable {r : MoveReq} {slot : Nat} {s : State} {c : Carrier}

/-- From the head to the limit a carrier has one run of its route (R25). -/
theorem sections_from_head (hl : c.head ≤ c.limit) (hs : (c.route[c.head]?).map (fun e => e.sec) = some c.headSection) :
    [c.headSection] ++ c.ahead.map (fun e => e.sec) =
      ((c.route.drop c.head).take (c.limit + 1 - c.head)).map (fun e => e.sec) := by
  obtain ⟨e, he, hsec⟩ := Option.map_eq_some_iff.mp hs
  obtain ⟨hlt, rfl⟩ := List.getElem?_eq_some_iff.mp he
  rw [List.drop_eq_getElem_cons hlt, show c.limit + 1 - c.head = (c.limit - c.head) + 1 by omega, List.take_succ_cons,
    List.map_cons, hsec]
  rfl

/-- An advanced head moves the border of trail and way ahead, not the sections (R70). -/
theorem heldSections_reportedContext (onRoute : r.headIndex.toNat < c.route.length) (granted : r.headIndex.toNat ≤ c.limit)
    (hs : (c.route[c.head]?).map (fun e => e.sec) = some c.headSection) :
    (reportedContext r s c).heldSections = c.heldSections := by
  by_cases hlt : c.head < r.headIndex.toNat
  · have head : (reportedContext r s c).head = r.headIndex.toNat := Nat.max_eq_right hlt.le
    have headSection : ((reportedContext r s c).route[(reportedContext r s c).head]?).map (fun e => e.sec) =
        some (reportedContext r s c).headSection := by
      change (c.route[(reportedContext r s c).head]?).map (fun e => e.sec) = some (headSectionAfter c r)
      rw [head, headSectionAfter, if_pos hlt, List.getElem?_eq_getElem onRoute]
      rfl
    have after := sections_from_head (c := reportedContext r s c) (by rw [head]; exact granted) headSection
    have before := sections_from_head (hlt.le.trans granted) hs
    have run : (c.route.drop c.head).take (c.limit + 1 - c.head) =
        (c.route.drop c.head).take (r.headIndex.toNat - c.head) ++
          (c.route.drop r.headIndex.toNat).take (c.limit + 1 - r.headIndex.toNat) := by
      rw [show c.limit + 1 - c.head = (r.headIndex.toNat - c.head) + (c.limit + 1 - r.headIndex.toNat) by omega,
        List.take_add, List.drop_drop, show c.head + (r.headIndex.toNat - c.head) = r.headIndex.toNat by omega]
    have trail : (reportedContext r s c).trail =
        c.trail ++ (c.route.drop c.head).take (r.headIndex.toNat - c.head) := rfl
    rw [Carrier.heldSections, Carrier.heldSections, List.append_assoc, List.append_assoc, after, before, head, run, trail]
    simp only [List.map_append, List.append_assoc]
    rfl
  · have hle : r.headIndex.toNat ≤ c.head := Nat.not_lt.mp hlt
    simp only [Carrier.heldSections, Carrier.ahead, reportedContext, headSectionAfter, headAfter, if_neg hlt,
      Nat.max_eq_left hle, Nat.sub_eq_zero_of_le hle, List.take_zero, List.append_nil, notedContext]

end

section

variable {r : MoveReq} {slot : Nat} {s : State} (good : GoodReport r slot s)
  (hs : ((s.carrier slot).route[(s.carrier slot).head]?).map (fun e => e.sec) = some (s.carrier slot).headSection)
  (distinct : (s.carrier slot).heldSections.Nodup) (held : HoldsAll slot s)

include good hs distinct held

/-- Step 6 gives back the trimmed sections and no other (R71). -/
theorem positioned_holdsAll : HoldsAll slot (positioned r slot s) := by
  have followed := positioned_followed good
  have same := heldSections_reportedContext (s := s) good.onRoute good.granted hs
  generalize hd : reportedContext r s (s.carrier slot) = d at followed same
  have parts : d.heldSections = (trailTrimmed d.trail r.trailCount.toNat).map (fun e => e.sec) ++
      ((positioned r slot s).carrier slot).heldSections := by
    rw [followed.context]
    simp only [Carrier.heldSections, Carrier.ahead, trailTrimmed, trailCut, ← List.append_assoc, ← List.map_append,
      List.take_append_drop]
  rw [same] at parts
  intro sec hm
  have there : sec ∈ (s.carrier slot).heldSections := parts ▸ List.mem_append_right _ hm
  rw [parts] at distinct
  rw [holdsSection_eq_isSome, followed.back.states, if_neg fun gone => List.disjoint_of_nodup_append distinct gone hm,
    ← holdsSection_eq_isSome]
  exact held sec there

end

/-! ### Step 10 of a good report -/

/-- Of the report and of the context before it, what stands when step 10 begins, with or without a decline before. -/
structure Carries (r : MoveReq) (s : State) (c d : Carrier) : Prop where
  head : d.head = headAfter c r
  headSection : d.headSection = headSectionAfter c r
  remaining : d.remaining = remainingAfter s c r
  route : d.route = c.route
  params : d.params = c.params
  routeNumber : d.routeNumber = c.routeNumber
  kept : d.keptGrant = c.keptGrant
  number : d.grantNumber = c.grantNumber
  noted : ReportNoted r d

/-- A good report has come to step 10 in the state `x`. -/
structure AtStepTen (r : MoveReq) (slot : Nat) (s x : State) : Prop where
  carries : Carries r s (s.carrier slot) (x.carrier slot)
  limit : (x.carrier slot).limit = (s.carrier slot).limit
  rolls : Rolls slot (s.carrier slot).route.length x
  bystanders : ∀ n, n ≠ slot → s.waitOf n = none → Untouched n s x
  rest : TrafficOnly s x

section

variable {r : MoveReq} {slot : Nat} {s : State} (good : GoodReport r slot s)
  (inRoute : (s.carrier slot).limit < (s.carrier slot).route.length)

include good inRoute

theorem positioned_atStepTen (held : HoldsAll slot (positioned r slot s)) :
    AtStepTen r slot s (positioned r slot s) := by
  have followed := positioned_followed good
  have carries : Carries r s (s.carrier slot) ((positioned r slot s).carrier slot) := by
    rw [carrier_positioned good]
    exact ⟨rfl, rfl, rfl, rfl, rfl, rfl, rfl, rfl, ⟨rfl, rfl, rfl, rfl, rfl⟩⟩
  have limit : ((positioned r slot s).carrier slot).limit = (s.carrier slot).limit := by
    rw [carrier_positioned good]
    rfl
  exact ⟨carries, limit, ⟨followed.admitted, by rw [carries.route], by rw [limit]; exact inRoute, held⟩,
    followed.bystanders, followed.rest⟩

theorem declined_atStepTen {k : CutbackRecord} (record : (s.carrier slot).cutback = some k)
    (held : HoldsAll slot (positioned r slot s)) : AtStepTen r slot s (declined r slot k s) := by
  have ended := declined_cutbackEnded good record
  have carries : Carries r s (s.carrier slot) ((declined r slot k s).carrier slot) := by
    rw [carrier_declined good record]
    exact ⟨rfl, rfl, rfl, rfl, rfl, rfl, rfl, rfl, ⟨rfl, rfl, rfl, rfl, rfl⟩⟩
  have restored : HoldsAll slot (declined r slot k s) := by
    intro sec hm
    have before : sec ∈ ((positioned r slot s).carrier slot).heldSections := by
      rw [ended.context] at hm
      exact hm
    have holds := held sec before
    rw [holdsSection_eq_isSome] at holds ⊢
    rw [ended.states]
    split
    · rfl
    · exact holds
  have limit : ((declined r slot k s).carrier slot).limit = (s.carrier slot).limit := by
    rw [carrier_declined good record]
    rfl
  exact ⟨carries, limit,
    ⟨admitted_declined good record, by rw [carries.route], by rw [limit]; exact inRoute, restored⟩,
    declined_bystanders good record, declined_trafficOnly good k⟩

/-- A good report of an ACTIVE carrier that does not complete its route comes to step 10 in a RUNNING part, where no
cutback is in flight or the report declines it (R73 to R76). -/
theorem exec_stepTen (running : s.partState = .running)
    (beyond : ∀ k, (s.carrier slot).cutback = some k → k.target < headAfter (s.carrier slot) r)
    (goes : ¬Completes r (s.carrier slot)) (held : HoldsAll slot (positioned r slot s)) :
    ∃ x, exec (.moveReq r) s = .next (sendGrant slot (compute slot x).grant (compute slot x).state) ∧
      AtStepTen r slot s x := by
  have notHalted {x : State} (h : TrafficOnly s x) : x.partState ≠ .halted := by
    rw [h.control.partState, running]
    decide
  cases record : (s.carrier slot).cutback with
  | none =>
    refine ⟨positioned r slot s, ?_, positioned_atStepTen good inRoute held⟩
    rw [exec_noCutback good record, finishRequest_goesOn (positioned_standsAt good) goes,
      answerRequest_notHalted (notHalted (positioned_followed good).rest)]
  | some k =>
    refine ⟨declined r slot k s, ?_, declined_atStepTen good inRoute record held⟩
    rw [exec_declines good record (beyond k record), finishRequest_goesOn (declined_standsAt good record) goes,
      answerRequest_notHalted (notHalted (declined_trafficOnly good k))]

end

theorem Computed.carries {r : MoveReq} {s : State} {c d e : Carrier} (h : Computed d e) (k : Carries r s c d) :
    Carries r s c e := by
  obtain ⟨head, headSection, remaining, route, params, routeNumber, kept, number, noted⟩ := k
  rw [show e = _ from h]
  exact ⟨head, headSection, remaining, route, params, routeNumber, kept, number,
    ⟨noted.sequence, noted.speed, noted.badRun, noted.silence, noted.probeSent⟩⟩

/-- No clamp lets a speed exceed the request, vmax or the head section's limit (R85). -/
theorem firstClamp_le (s : State) (c : Carrier) :
    firstClamp s c ≤ c.requestedSpeed ∧ firstClamp s c ≤ c.params.vmax ∧ firstClamp s c ≤ s.speedLimitOf c.headSection :=
  ⟨Nat.min_le_left _ _, (Nat.min_le_right _ _).trans (Nat.min_le_left _ _),
    (Nat.min_le_right _ _).trans (Nat.min_le_right _ _)⟩

/-- Settles O41: the report comes to step 10 (`exec_stepTen`), the loop keeps all the carrier has held
(`compute_rollsOn`), and the GRANT has the permitted speed (`permittedSpeed_fits`, `permittedSpeed_le_secondClamp`). -/
theorem everyGrantCanStop : Obligations.EveryGrantCanStop := by
  intro r slot s good running c active beyond goes inRoute headHeld distinct held margin
  obtain ⟨x, next, start⟩ := exec_stepTen good inRoute running beyond (fun h => goes h.2)
    (positioned_holdsAll good headHeld distinct held)
  obtain ⟨rolls, raised⟩ := compute_rollsOn slot _ x start.rolls
  obtain ⟨adm, computed⟩ := compute_computesFor slot x start.rolls.admitted
  have carries := computed.carries start.carries
  have acts := compute_actsFor slot x
  have waiting := compute_reason_iff slot x
  have traffic := TrafficOnly.trans start.rest (compute_trafficOnly x slot)
  have speedLimit := (sameSpan_of_trafficOnly traffic c).speedLimitOf
  have fields : (compute slot x).grant = limitGrant (compute slot x).state ((compute slot x).state.carrier slot) _ := rfl
  generalize (compute slot x).state = y at *
  generalize (compute slot x).grant = g at *
  have answered := sendGrant_answeredOn adm g
  have later := sendGrant_actsFor slot g y
  have span := answered.span
  generalize sendGrant slot g y = v at *
  have clamped : g.speed ≤ secondClamp y (y.carrier slot) := by
    rw [fields]
    exact permittedSpeed_le_secondClamp
  obtain ⟨request, vmax, headLimit⟩ := firstClamp_le y (y.carrier slot)
  have first := clamped.trans secondClamp_le_firstClamp
  have sent : GrantSent slot g.route g.limit g.distance g.speed g.reason.code (dropFront .c s) v :=
    GrantSent.since answered.sent (by rw [carries.kept, carrier_dropFront]) (by rw [carries.number, carrier_dropFront])
  have ahead : (v.carrier slot).ahead = (y.carrier slot).ahead := by
    rw [Carrier.ahead, Carrier.ahead, span.route, span.head, span.limit]
  have heldSections : (v.carrier slot).heldSections = (y.carrier slot).heldSections := by
    rw [Carrier.heldSections, Carrier.heldSections, ahead, span.headSection, answered.context]
  have noted : ReportNoted r (v.carrier slot) := by
    rw [answered.context]
    exact ⟨carries.noted.sequence, carries.noted.speed, carries.noted.badRun, carries.noted.silence,
      carries.noted.probeSent⟩
  refine ⟨v, g.speed, g.reason.code, next, ⟨?_, ?_, ?_, ?_, ?_, fun e he => ?_, ?_, ?_, ?_, ?_, noted, ?_, ?_,
    fun sec hm => ?_, ?_⟩, ?_, TrafficOnly.trans traffic answered.only.rest⟩
  · rw [available_congr span, span.limit]
    rw [fields] at sent ⊢
    rw [← carries.routeNumber]
    exact sent
  · rw [need_congr span, available_congr span, span.limit, fields]
    exact permittedSpeed_fits
  · rw [carries.noted.speed] at request
    exact (first.trans request).trans (Nat.min_le_left _ _)
  · rw [carries.params] at vmax
    exact first.trans vmax
  · rw [span.headSection, ← speedLimit]
    exact first.trans headLimit
  · rw [← speedLimit]
    exact clamped.trans (secondClamp_le_ahead (ahead ▸ he))
  · rw [span.head, carries.head]
  · rw [span.headSection, carries.headSection]
  · rw [span.remaining, carries.remaining]
  · rw [span.route, carries.route]
  · rw [span.limit]
    exact start.limit ▸ raised
  · rw [span.limit]
    exact rolls.limit
  · rw [holdsSection_of_holds answered.only.holds]
    exact rolls.holds sec (heldSections ▸ hm)
  · rw [waiting, State.waitOf, State.waitOf, answered.only.waits]
  · exact bystandersKept_of_untouched fun n hn hw => (isFrame_untouched n).trans (start.bystanders n hn hw)
      ((isFrame_untouched n).trans (acts.others n hn) (later.others n hn))

end Sys2Proof.Proofs
end
